-- ==== Sys2Proof/Word.lean ====
section
/-! DEFINITION. The two word types of the field network: an octet and a field address. -/
namespace Sys2Proof

/-- An octet is eight bits (spec/00_scope.md, Numbers and addresses). -/
abbrev Byte := BitVec 8

/-- A field address is a 16-bit number (spec/00_scope.md, Numbers and addresses). -/
abbrev Addr := BitVec 16

end Sys2Proof
end

