-- ==== Sys2Proof/Syntax.lean ====
section
/-! DEFINITION. The commands of the block: one constructor for each row of spec/opcode_table.json. -/
namespace Sys2Proof

/-- Drops are numbered 0 to 15 (spec/00_scope.md, Drops, monitors, policies). -/
abbrev DropNo := Fin 16

/-- The four protection monitors of a drop (chapter 4). -/
inductive Monitor where
  | err | rate | sil | stat
  deriving DecidableEq, Repr

/-- What a line decoder gave a receiver between the start and the end of one frame (R2): the whole octets in line
order, and whether a coding violation was marked. `begun` and `ended` are the reset count at the start of the frame
and when its last octet had been received; they differ when a reset came upon the frame between (R3). A frame whole
at a reset that its arrival falls together with was ended under the count before it (R146, log 10). -/
structure LineFrame where
  octets : List Byte
  violation : Bool
  begun : Nat
  ended : Nat
  deriving DecidableEq, Repr

/-- The rows of spec/opcode_table.json. The takings of commands (`getInfo` to `unknownCommand`) have no
operands: the command stands at the head of the engine's command queue (R129, R130; log 5). -/
inductive Instr where
  /-- The supply rises and holds the part in reset (R16). -/
  | powerOnReset
  /-- RESET_N was low for `lowMicros` microseconds or more; below 10 it is ignored (R16, log 14). -/
  | lineReset (lowMicros : Nat)
  /-- The part starts running; the straps read `straps` (R16, R18). -/
  | endOfStartUp (straps : BitVec 4)
  | dropArrival (k : DropNo) (f : LineFrame)
  | trunkArrival (f : LineFrame)
  | dropTransmissionCompletion (k : DropNo)
  | trunkTransmissionCompletion
  | dropTransmitterStart (k : DropNo)
  | grantDecision
  /-- One millisecond tick; bit k of `pres` is the level of line PRESk (R14, R17). -/
  | millisecondTick (pres : BitVec 16)
  | presenceChangeAccepted (k : DropNo)
  | rateCreditFull (k : DropNo)
  | silenceLimitReached (k : DropNo)
  | delayTimerExpiry (k : DropNo) (m : Monitor)
  | recoveryTimerExpiry (k : DropNo) (m : Monitor)
  | secondBoundary
  | probationLimitReached (k : DropNo)
  | decayTimerExpiry (k : DropNo)
  | latchHoldExpiry (k : DropNo)
  | managementLossExpiry
  | holdoffExpiry
  | getInfo
  | readSettings
  | writeSettings
  | readMap
  | writeMapHeader
  | writeMapEntry
  | applyMap
  | readPolicy
  | writePolicy
  | readClass
  | writeClass
  | readDrop
  | hold
  | recoverLatch
  | recoverBarred
  | recoverMonitor
  | injectErr
  | injectHeartbeat
  | readEvents
  | ackAllEvents
  | readCounters
  | clearCounters
  | reset
  | unknownCommand
  /-- The hold conditions as they now stand: supply stable, RESET_N high (R16, log 14). -/
  | resetRelease (supplyStable resetNHigh : Bool)
  deriving DecidableEq, Repr

end Sys2Proof
end

