-- ==== Sys2Proof/Config.lean ====
section
/-! DEFINITION. What one implementation fixes. The spec leaves no value free, so there is no opaque constant here. -/
namespace Sys2Proof.Config

/-- The strap value ASEL3..ASEL0 in `State.reset`. DESIGN CHOICE, unsafe: the board ties the straps (R18, log 7). -/
def resetStraps : BitVec 4 := 0

end Sys2Proof.Config
end

