-- ==== Sys2Proof/Machine/State.lean ====
section
/-! DEFINITION. The state of the part as plain data, its values after reset, and the reasons a step can stop. -/
namespace Sys2Proof.Machine
open Sys2Proof

/-! ### Links, frames and presence (chapter 1) -/

/-- A debounced presence level (R14). -/
inductive Level where
  | present | absent
  deriving DecidableEq, Repr

/-- A time that counts down: so many ticks or boundaries to its expiry (R17), or `expired`, the model's own form
of a time at its expiry that no event has taken yet (log 3). -/
inductive Countdown where
  | left (n : Nat)
  | expired
  deriving DecidableEq, Repr

/-- A timer of the spec: stopped (or absent), or counting down. -/
abbrev Timer := Option Countdown

/-- A debounce candidate: its target level and its remaining time in ms (R14). -/
structure Candidate where
  target : Level
  remaining : Countdown
  deriving DecidableEq, Repr

/-- The reasons for a faulty outcome (R9, R13). -/
inductive FaultyReason where
  | runt | check | length | kind | source | injected
  deriving DecidableEq, Repr

/-- The port a frame arrived at (section 1.3). -/
inductive Port where
  | trunk
  | drop (k : DropNo)
  deriving DecidableEq, Repr

/-- The classification record of section 1.3. -/
structure Classification where
  port : Port
  octetCount : Nat
  kind : Option Byte
  len : Option Byte
  reason : Option FaultyReason
  deriving DecidableEq, Repr

/-- A frame held exactly as it arrived, with its classification (R6, R37). -/
structure HeldFrame where
  octets : List Byte
  cls : Classification
  deriving DecidableEq, Repr

/-! ### The Drop Map (chapter 2) -/

/-- The three header fields of a map (section 2.1). -/
structure MapHeader where
  planeBase : Addr
  own : Addr
  controller : Addr
  deriving DecidableEq, Repr

/-- One map entry: a size code, 0 or 2..12, and a policy index (section 2.1). -/
structure MapEntry where
  sizeCode : Nat
  policy : Fin 8
  deriving DecidableEq, Repr

/-- One copy of the Drop Map (R19). -/
structure DropMap where
  header : MapHeader
  entries : Vector MapEntry 16
  deriving DecidableEq, Repr

/-! ### Policies and monitors (chapter 4) -/

/-- Which gates a tripped monitor holds closed (section 4.1). -/
inductive Action where
  | none | up | down | both
  deriving DecidableEq, Repr

/-- The fields that every monitor group of a policy record has (section 4.1). -/
structure MonitorPolicy where
  enable : Bool
  tripDelay : Nat
  recovery : Nat
  action : Action
  auto : Bool
  latch : Bool
  deriving DecidableEq, Repr

/-- A policy record (section 4.1). -/
structure Policy where
  err : MonitorPolicy
  window : Nat
  tripCount : Nat
  releaseCount : Nat
  rate : MonitorPolicy
  depth : Nat
  refill : Nat
  sil : MonitorPolicy
  silenceLimit : Nat
  stat : MonitorPolicy
  persistence : Nat
  acceptance : Nat
  latchLimit : Nat
  decayInterval : Nat
  latchHold : Nat
  replacementRelease : Bool
  goodRun : Nat
  probationLimit : Nat
  deriving DecidableEq, Repr

/-- The four states of a monitor (section 4.3). -/
inductive MonitorState where
  | clear | alert | tripped | recovering
  deriving DecidableEq, Repr

/-- A monitor record (section 4.3). -/
structure MonitorRec where
  state : MonitorState
  condition : Bool
  timer : Timer
  deriving DecidableEq, Repr

/-- An outcome mark of the ERR window (R72). -/
inductive Mark where
  | good | faulty
  deriving DecidableEq, Repr

/-! ### Status classes (chapter 5) -/

inductive StatusClass where
  | ok | degraded | fault
  deriving DecidableEq, Repr

/-- An entry of the Status Class Table (R95). -/
structure ClassEntry where
  valid : Bool
  low : Byte
  high : Byte
  cls : StatusClass
  deriving DecidableEq, Repr

/-! ### Admission (chapter 6) -/

inductive Admission where
  | vacant | probation | admitted | latched | barred
  deriving DecidableEq, Repr

/-! ### Events and counters (chapters 9 and 10) -/

/-- The twenty flags of a drop entry (R156). -/
inductive DropFlag where
  | alert (m : Monitor) | trip (m : Monitor) | cleared (m : Monitor)
  | latch | release | admitted | barred | status | presence | wrap | overflow
  deriving DecidableEq, Repr

/-- The five flags of the device entry (R156). -/
inductive DeviceFlag where
  | fallbackEnter | fallbackExit | mapApplied | mgmtOverrun | deviceWrap
  deriving DecidableEq, Repr

/-- The ten counters of a drop (R166). -/
inductive DropCounter where
  | upForwarded | downForwarded | heartbeats | faulty | overrun
  | gatedUp | gatedDown | overflowUp | overflowDown | trips
  deriving DecidableEq, Repr

/-- The six counters of the device (R166). -/
inductive DeviceCounter where
  | trunkFaulty | unrouted | misaddressed | commands | commandErrors | commandsLost
  deriving DecidableEq, Repr

/-! ### Management (chapters 7 and 8) -/

inductive FallbackOption where
  | report | isolate | policy
  deriving DecidableEq, Repr

/-- The Settings Record (R135). Bit n of `noticeMask` masks event kind n (section 7.5). -/
structure Settings where
  timeout : Nat
  fallbackOption : FallbackOption
  fallbackPolicy : Fin 8
  debounce : Nat
  snapshot : Bool
  noticeMask : BitVec 16
  suspend : Bool
  holdoff : Nat
  deriving DecidableEq, Repr

/-- An entry of the command queue (R129). -/
structure Command where
  src : Addr
  payload : List Byte
  deriving DecidableEq, Repr

/-- An entry of the response queue: the whole frame, and whether it answers a RESET (R132, R145). -/
structure Response where
  octets : List Byte
  isReset : Bool
  deriving DecidableEq, Repr

/-- Where a frame on the trunk transmitter came from (R5). -/
inductive TrunkSource where
  | upstream (k : DropNo)
  | response (isReset : Bool)
  | notice
  deriving DecidableEq, Repr

/-- A frame in transmission on the trunk. -/
structure TrunkTx where
  octets : List Byte
  source : TrunkSource
  deriving DecidableEq, Repr

inductive Engine where
  | ready | resetPending
  deriving DecidableEq, Repr

/-- The reported cause of a reset (spec/00_scope.md, Kinds of reset). -/
inductive ResetCause where
  | powerOn | line | command
  deriving DecidableEq, Repr

/-- Whether the part is held in reset, in start-up or running, with the cause of a reset in progress (R16). -/
inductive Phase where
  | held (cause : ResetCause)
  | startUp (cause : ResetCause)
  | running
  deriving DecidableEq, Repr

/-- The plain inputs: the hold conditions as last told, the straps and presence lines as last sampled. -/
structure Pins where
  supplyStable : Bool
  resetNHigh : Bool
  asel : BitVec 4
  pres : BitVec 16
  deriving DecidableEq, Repr

/-! ### The state -/

/-- All per-drop state. The gates, the suspended indicator and the policy in force are computed from it
(`upGate`, `downGate`, `suspended`, `policyIndex`; log 9). -/
structure DropState where
  admission : Admission
  monitors : Vector MonitorRec 4
  errWindow : List Mark
  credit : Nat
  silence : Nat
  history : List Byte
  accepted : Option Byte
  repeatCount : Nat
  decay : Timer
  latchTimer : Timer
  absenceSeen : Bool
  runCount : Nat
  elapsed : Nat
  upHold : Bool
  downHold : Bool
  injection : Nat
  lastFaulty : Option FaultyReason
  upQueue : List HeldFrame
  downQueue : List HeldFrame
  tx : Option HeldFrame
  level : Level
  candidate : Option Candidate
  flags : Vector Bool 20
  live : Vector (BitVec 16) 10
  snap : Vector (BitVec 16) 10
  deriving DecidableEq, Repr

/-- The state of the part, and the queue of commands that wait for it. `fallback` is the option in force,
absent exactly in NORMAL (chapter 8). `boundaryDue` is the model's own: a tick reached a second boundary that
is not yet taken (log 3). `resets` stands for what every receiver knows of its line: how many times a reset has
ended reception, so that a frame which one of them came upon is ignored to its end (R3, log 10). -/
structure State where
  phase : Phase
  resets : Nat
  pins : Pins
  timebase : Nat
  boundaryDue : Bool
  sampled : Bool
  staging : DropMap
  active : DropMap
  policies : Vector Policy 8
  classes : Vector ClassEntry 16
  settings : Settings
  commandQueue : List Command
  responseQueue : List Response
  engine : Engine
  lastCause : ResetCause
  lossTimer : Timer
  fallback : Option FallbackOption
  deviceFlags : Vector Bool 5
  noticePending : Bool
  holdoff : Timer
  liveDevice : Vector (BitVec 16) 6
  snapDevice : Vector (BitVec 16) 6
  pointer : DropNo
  trunkTx : Option TrunkTx
  drops : Vector DropState 16
  pending : List Instr
  deriving DecidableEq, Repr

/-! ### Values after reset -/

/-- A monitor group of the default record (R61). -/
def MonitorPolicy.default : MonitorPolicy :=
  { enable := false, tripDelay := 0, recovery := 0, action := .both, auto := true, latch := true }

/-- The default policy record (R61). -/
def Policy.default : Policy :=
  { err := .default, window := 8, tripCount := 2, releaseCount := 0
    rate := .default, depth := 4096, refill := 64
    sil := .default, silenceLimit := 1000
    stat := .default, persistence := 10, acceptance := 8
    latchLimit := 0, decayInterval := 60, latchHold := 0, replacementRelease := true
    goodRun := 3, probationLimit := 0 }

/-- The default Settings Record (R135). -/
def Settings.default : Settings :=
  { timeout := 0, fallbackOption := .report, fallbackPolicy := 7, debounce := 16, snapshot := false
    noticeMask := 0, suspend := false, holdoff := 100 }

/-- Both maps after a power-on or line reset with strap value `straps` (R18, R23). -/
def DropMap.atReset (straps : BitVec 4) : DropMap :=
  { header := { planeBase := 0x0001, own := 0xFFE0 + straps.setWidth 16, controller := 0x0000 }
    entries := Vector.replicate 16 { sizeCode := 0, policy := 0 } }

/-- A monitor record after reset (R81). -/
def MonitorRec.atReset : MonitorRec := { state := .clear, condition := false, timer := none }

/-- A drop after a power-on or line reset (R13, R15, R38, R81, R92, R94, R107, R156, R171, R172). -/
def DropState.atReset : DropState :=
  { admission := .vacant, monitors := Vector.replicate 4 .atReset, errWindow := []
    credit := Policy.default.depth, silence := 0, history := [], accepted := none
    repeatCount := 0, decay := none, latchTimer := none, absenceSeen := false
    runCount := 0, elapsed := 0, upHold := false, downHold := false
    injection := 0, lastFaulty := none, upQueue := [], downQueue := [], tx := none
    level := .absent, candidate := none
    flags := Vector.replicate 20 false, live := Vector.replicate 10 0, snap := Vector.replicate 10 0 }

/-- The running part at the end of start-up after a power-on reset with strap value `straps`. -/
def State.afterStartUp (straps : BitVec 4) : State :=
  { phase := .running, resets := 0
    pins := { supplyStable := true, resetNHigh := true, asel := straps, pres := 0 }
    timebase := 0, boundaryDue := false, sampled := false
    staging := .atReset straps, active := .atReset straps
    policies := Vector.replicate 8 .default
    classes := Vector.replicate 16 { valid := false, low := 0, high := 0, cls := .ok }
    settings := .default
    commandQueue := [], responseQueue := [], engine := .ready, lastCause := .powerOn
    lossTimer := none, fallback := none
    deviceFlags := Vector.replicate 5 false, noticePending := false, holdoff := none
    liveDevice := Vector.replicate 6 0, snapDevice := Vector.replicate 6 0
    pointer := 15, trunkTx := none
    drops := Vector.replicate 16 .atReset
    pending := [] }

/-- The machine right after reset: the end of start-up after a power-on reset (R16, R23, R107, R147), with
the straps of `Config.resetStraps` (DESIGN CHOICE, log 7). -/
def State.reset : State := State.afterStartUp Config.resetStraps

/-! ### Why a step can stop -/

/-- No rule of the spec stops the part, so there is no fault (log 16). -/
inductive Fault : Type
  deriving DecidableEq, Repr

inductive Refusal where
  /-- Raised by `exec` for a row without a meaning; safe. No arm raises it. -/
  | notModelled (mnemonic : String)
  deriving DecidableEq, Repr

end Sys2Proof.Machine
end

