-- ==== Sys2Proof/Machine/Frame.lean ====
section
/-! DEFINITION. Field frames: octet order, the CHECK field, reception, the frame checker, and the frames the
part originates (chapter 1). -/
namespace Sys2Proof.Machine
open Sys2Proof

/-! ### Octet order -/

/-- A two-octet number, high octet first (spec/00_scope.md). -/
def word (hi lo : Byte) : Addr := hi ++ lo

/-- The two octets of a 16-bit number, high octet first. -/
def octets16 (w : Addr) : List Byte := [w.extractLsb' 8 8, w.extractLsb' 0 8]

/-- A number as one octet, and as two octets high first. -/
def octet (n : Nat) : Byte := BitVec.ofNat 8 n
def octets2 (n : Nat) : List Byte := octets16 (BitVec.ofNat 16 n)

/-- Octet `i` of a list, and the 16-bit number at octets `i`, `i + 1`. -/
def octetAt (l : List Byte) (i : Nat) : Byte := l.getD i 0
def wordAt (l : List Byte) (i : Nat) : Addr := word (octetAt l i) (octetAt l (i + 1))

/-! ### The CHECK field (R7) -/

/-- One data bit of R7: shift toward the most significant end; combine with 1021h when the bit shifted out
differs from the data bit. -/
def crcBit (c : BitVec 16) (bit : Bool) : BitVec 16 :=
  if c.msb != bit then (c <<< 1) ^^^ 0x1021 else c <<< 1

/-- The eight bits of an octet, most significant first. -/
def crcOctet (c : BitVec 16) (o : Byte) : BitVec 16 :=
  [7, 6, 5, 4, 3, 2, 1, 0].foldl (fun c i => crcBit c (o.getLsbD i)) c

/-- The check value of a list of octets, starting at FFFFh. -/
def crc16 (l : List Byte) : BitVec 16 := l.foldl crcOctet 0xFFFF

/-- R7: the last two octets received are compared with the check value over every octet before them. -/
def checkMatches (l : List Byte) : Bool :=
  crc16 (l.take (l.length - 2)) == wordAt l (l.length - 2)

/-! ### Reception (R2) -/

/-- A receiver stores at most the first 248 octets of a frame (R2). -/
def receiverStore : Nat := 248

/-- What a receiver passes on at an arrival: the octets stored, the true octet count, and the outcome of the
check over every octet received, which a coding violation fails (R2). -/
structure Reception where
  stored : List Byte
  count : Nat
  checkOk : Bool
  deriving DecidableEq, Repr

/-- R2: the frame as its receiver has it at the arrival. -/
def receive (f : LineFrame) : Reception :=
  { stored := f.octets.take receiverStore
    count := f.octets.length
    checkOk := !f.violation && checkMatches f.octets }

/-! ### Frame fields (section 1.2) -/

def kindData : Byte := 0x01
def kindHeartbeat : Byte := 0x02
def kindCommand : Byte := 0x10
def kindResponse : Byte := 0x11
def kindNotice : Byte := 0x12

def frameDest (l : List Byte) : Addr := wordAt l 0
def frameSrc (l : List Byte) : Addr := wordAt l 2
def frameKind (l : List Byte) : Byte := octetAt l 4
def frameLen (l : List Byte) : Byte := octetAt l 5
/-- Octets 6 .. 5 + LEN. -/
def framePayload (l : List Byte) : List Byte := (l.drop 6).take (frameLen l).toNat

/-- R8: a frame the part originates, CHECK included. -/
def buildFrame (dest src : Addr) (kind : Byte) (payload : List Byte) : List Byte :=
  let body := octets16 dest ++ octets16 src ++ [kind, octet payload.length] ++ payload
  body ++ octets16 (crc16 body)

/-! ### The frame checker (R9 to R12) -/

/-- The LENGTH test fails (R11). -/
def lengthFails (r : Reception) : Bool :=
  let len := (frameLen r.stored).toNat
  decide (240 < len) || decide (len + 8 ≠ r.count) ||
    (frameKind r.stored == kindHeartbeat && (decide (len = 0) || decide (16 < len)))

/-- The KIND test fails: five kinds pass at the trunk, two at a drop port (R12). -/
def kindFails (port : Port) (r : Reception) : Bool :=
  match port with
  | .trunk =>
    !([kindData, kindHeartbeat, kindCommand, kindResponse, kindNotice].contains (frameKind r.stored))
  | .drop _ => !([kindData, kindHeartbeat].contains (frameKind r.stored))

/-- The SOURCE test fails: applied at drop ports alone (R9, R12); `inRange` says whether an address lies in
the drop's range of the active map. -/
def sourceFails (port : Port) (inRange : DropNo → Addr → Bool) (r : Reception) : Bool :=
  match port with
  | .trunk => false
  | .drop k => !inRange k (frameSrc r.stored)

/-- R9: the reason of the first test that fails. -/
def faultyReason (port : Port) (inRange : DropNo → Addr → Bool) (r : Reception) : Option FaultyReason :=
  if r.count < 8 then some .runt
  else if !r.checkOk then some .check
  else if lengthFails r then some .length
  else if kindFails port r then some .kind
  else if sourceFails port inRange r then some .source
  else none

/-- The classification record of an arrival (section 1.3). -/
def classify (port : Port) (inRange : DropNo → Addr → Bool) (r : Reception) : Classification :=
  { port := port
    octetCount := r.count
    kind := if r.count < 5 then none else some (frameKind r.stored)
    len := if r.count < 6 then none else some (frameLen r.stored)
    reason := faultyReason port inRange r }

end Sys2Proof.Machine
end

