-- ==== Sys2Proof/Machine/Ops.lean ====
section
/-! DEFINITION. Named operations over the state: access to one drop, the Drop Map's questions, the policy in
force, the derived views, and the loop over the sixteen drops. -/
namespace Sys2Proof.Machine
open Sys2Proof

/-! ### Drops and monitors -/

/-- The sixteen drops in drop order. -/
def allDrops : List DropNo := [0, 1, 2, 3, 4, 5, 6, 7, 8, 9, 10, 11, 12, 13, 14, 15]

/-- The four monitors in the order of their numbers (chapter 4). -/
def allMonitors : List Monitor := [.err, .rate, .sil, .stat]

/-- The monitor's number: ERR 0, RATE 1, SIL 2, STAT 3 (chapter 4). -/
def Monitor.idx : Monitor → Fin 4
  | .err => 0
  | .rate => 1
  | .sil => 2
  | .stat => 3

/-- Carry one piece of work out for every drop, in drop order. -/
def forDrops (f : DropNo → State → State) (s : State) : State := allDrops.foldl (fun s k => f k s) s

/-- The state of drop `k`. -/
def State.drop (s : State) (k : DropNo) : DropState := s.drops[k]

/-- Change the state of drop `k`. -/
def State.modDrop (s : State) (k : DropNo) (f : DropState → DropState) : State :=
  { s with drops := s.drops.set k (f (s.drop k)) }

/-- Monitor record `m` of a drop. -/
def DropState.mon (d : DropState) (m : Monitor) : MonitorRec := d.monitors[Monitor.idx m]

/-- Replace monitor record `m` of a drop. -/
def DropState.setMon (d : DropState) (m : Monitor) (r : MonitorRec) : DropState :=
  { d with monitors := d.monitors.set (Monitor.idx m) r }

/-- The group of monitor `m` in a policy record. -/
def Policy.mon (p : Policy) : Monitor → MonitorPolicy
  | .err => p.err
  | .rate => p.rate
  | .sil => p.sil
  | .stat => p.stat

/-- A monitor in TRIPPED or RECOVERING holds gates and fails the run judgement (R71, R99, R114). -/
def MonitorRec.closing (r : MonitorRec) : Bool := r.state == .tripped || r.state == .recovering

/-- Some monitor of the drop is TRIPPED or RECOVERING. -/
def DropState.anyClosing (d : DropState) : Bool := allMonitors.any fun m => (d.mon m).closing

/-! ### The Drop Map (chapter 2) -/

/-- R20: the number of addresses of a size code. -/
def sizeOfCode (c : Nat) : Nat := if c = 0 then 0 else 2 ^ c

/-- The size of drop `k` in a map. -/
def DropMap.size (m : DropMap) (k : DropNo) : Nat := sizeOfCode m.entries[k].sizeCode

/-- R21: the base of drop `k`, on plain whole numbers with no 16-bit wrap. -/
def DropMap.base (m : DropMap) (k : DropNo) : Nat :=
  m.header.planeBase.toNat + ((allDrops.take k.val).map m.size).sum

/-- The total of the sixteen sizes. -/
def DropMap.total (m : DropMap) : Nat := (allDrops.map m.size).sum

/-- R22: whether address `a` lies in drop `k`'s range; always no for a drop of size 0. -/
def DropMap.inRange (m : DropMap) (k : DropNo) (a : Addr) : Bool :=
  decide (m.base k ≤ a.toNat) && decide (a.toNat < m.base k + m.size k)

/-- R22: which drop's range holds address `a`. -/
def DropMap.owner (m : DropMap) (a : Addr) : Option DropNo := allDrops.find? fun k => m.inRange k a

/-- The Drop Map Unit's answer for a trunk arrival (R36). -/
inductive Route where
  | own | broadcast | drop (k : DropNo) | none
  deriving DecidableEq, Repr

/-- The broadcast address. -/
def broadcastAddr : Addr := 0xFFFF

/-- R36: OWN, BROADCAST, DROP k or NONE. -/
def DropMap.route (m : DropMap) (dest : Addr) : Route :=
  if dest = m.header.own then .own
  else if dest = broadcastAddr then .broadcast
  else match m.owner dest with
    | some k => .drop k
    | none => .none

/-! ### The policy in force (R62) -/

/-- FALLBACK with option POLICY is in force. -/
def State.fallbackPolicyInForce (s : State) : Bool := s.fallback == some .policy

/-- R62: the index of drop `k`'s policy in force. -/
def State.policyIndex (s : State) (k : DropNo) : Fin 8 :=
  if s.fallbackPolicyInForce then s.settings.fallbackPolicy else s.active.entries[k].policy

/-- The policy record that governs drop `k`. -/
def State.policyOf (s : State) (k : DropNo) : Policy := s.policies[s.policyIndex k]

/-! ### Derived views (log 9) -/

/-- R151: the isolation term is on exactly while FALLBACK with ISOLATE is in force. -/
def State.isolated (s : State) : Bool := s.fallback == some .isolate

/-- An action of UP or BOTH includes UP (R125). -/
def Action.includesUp : Action → Bool
  | .up | .both => true
  | .none | .down => false

/-- An action of DOWN or BOTH includes DOWN (R125). -/
def Action.includesDown : Action → Bool
  | .down | .both => true
  | .none | .up => false

/-- Some monitor whose action includes UP is TRIPPED or RECOVERING. -/
def DropState.closesUp (d : DropState) (p : Policy) : Bool :=
  allMonitors.any fun m => (p.mon m).action.includesUp && (d.mon m).closing

/-- Some monitor whose action includes DOWN is TRIPPED or RECOVERING. -/
def DropState.closesDown (d : DropState) (p : Policy) : Bool :=
  allMonitors.any fun m => (p.mon m).action.includesDown && (d.mon m).closing

/-- R125: the upstream gate of drop `k`; true is open. -/
def State.upGate (s : State) (k : DropNo) : Bool :=
  (s.drop k).admission == .admitted && !(s.drop k).closesUp (s.policyOf k) && !(s.drop k).upHold &&
    !s.isolated

/-- R125: the downstream gate of drop `k`; true is open. -/
def State.downGate (s : State) (k : DropNo) : Bool :=
  ((s.drop k).admission == .probation || (s.drop k).admission == .admitted) &&
    !(s.drop k).closesDown (s.policyOf k) && !(s.drop k).downHold && !s.isolated

/-- R108: the suspended indicator. -/
def DropState.suspended (d : DropState) : Bool := d.admission == .probation && d.level == .absent

/-- The drop is VACANT. -/
def DropState.isVacant (d : DropState) : Bool := d.admission == .vacant

/-- R64: monitor `m` of drop `k` runs. -/
def State.runs (s : State) (k : DropNo) (m : Monitor) : Bool :=
  !(s.drop k).isVacant && ((s.policyOf k).mon m).enable

/-! ### Queues and timers -/

/-- R37: each drop queue has room for four waiting frames. -/
def dropQueueRoom : Nat := 4

/-- Sections 7.1 and 7.2: four commands wait, and a response queue of two. -/
def commandQueueRoom : Nat := 4
def responseQueueRoom : Nat := 2

/-- One tick or boundary of a countdown: the last unit brings its expiry, which then waits to be taken (R17, log 3). -/
def tickCountdown : Countdown → Countdown
  | .left n => if n ≤ 1 then .expired else .left (n - 1)
  | .expired => .expired

/-- One tick or boundary of a timer; a stopped timer stays stopped (R17). -/
def tickTimer (t : Timer) : Timer := t.map tickCountdown

/-- A timer with a duration; a duration of 0 is no timer (R17). -/
def startTimer (duration : Nat) : Timer := if duration = 0 then none else some (.left duration)

/-- Work that only the running part does (R16). -/
def whenRunning (s : State) (f : State → State) : State := if s.phase = .running then f s else s

end Sys2Proof.Machine
end

