-- ==== Sys2Proof/Machine/Flags.lean ====
section
/-! DEFINITION. Event flags, notice-pending and counters (chapters 9 and 10). -/
namespace Sys2Proof.Machine
open Sys2Proof

/-! ### Numbers of the flags and kinds -/

/-- The place of a flag in a drop's entry: the three monitor sets, then the eight single flags (section 7.5). -/
def DropFlag.idx : DropFlag → Fin 20
  | .alert .err => 0 | .alert .rate => 1 | .alert .sil => 2 | .alert .stat => 3
  | .trip .err => 4 | .trip .rate => 5 | .trip .sil => 6 | .trip .stat => 7
  | .cleared .err => 8 | .cleared .rate => 9 | .cleared .sil => 10 | .cleared .stat => 11
  | .latch => 12 | .release => 13 | .admitted => 14 | .barred => 15
  | .status => 16 | .presence => 17 | .wrap => 18 | .overflow => 19

/-- The kind number of a drop flag (section 7.5, notice mask). -/
def DropFlag.kind : DropFlag → Nat
  | .alert _ => 0 | .trip _ => 1 | .cleared _ => 2
  | .latch => 3 | .release => 4 | .admitted => 5 | .barred => 6
  | .status => 7 | .presence => 8 | .wrap => 9 | .overflow => 10

def DeviceFlag.idx : DeviceFlag → Fin 5
  | .fallbackEnter => 0 | .fallbackExit => 1 | .mapApplied => 2 | .mgmtOverrun => 3 | .deviceWrap => 4

/-- The kind number of a device flag (section 7.5, notice mask). -/
def DeviceFlag.kind : DeviceFlag → Nat
  | .fallbackEnter => 11 | .fallbackExit => 12 | .mapApplied => 13 | .mgmtOverrun => 14 | .deviceWrap => 15

/-- The twenty drop flags in the order of their places. -/
def allDropFlags : List DropFlag :=
  allMonitors.map .alert ++ allMonitors.map .trip ++ allMonitors.map .cleared ++
    [.latch, .release, .admitted, .barred, .status, .presence, .wrap, .overflow]

/-- The five device flags in the order of their places. -/
def allDeviceFlags : List DeviceFlag := [.fallbackEnter, .fallbackExit, .mapApplied, .mgmtOverrun, .deviceWrap]

def DropState.flag (d : DropState) (f : DropFlag) : Bool := d.flags[DropFlag.idx f]
def State.deviceFlag (s : State) (f : DeviceFlag) : Bool := s.deviceFlags[DeviceFlag.idx f]

/-! ### Raising (R157, R159) -/

/-- A kind is masked when its bit of the notice mask is 1 (section 7.5). -/
def Settings.masks (c : Settings) (kind : Nat) : Bool := c.noticeMask.getLsbD kind

/-- The three tests of R159 for a newly set flag of a kind. -/
def State.notifies (s : State) (kind : Nat) : Bool :=
  !s.settings.masks kind && !s.settings.suspend && s.active.header.controller != 0

/-- R159: what a newly set flag of a kind does to notice-pending. -/
def State.notify (s : State) (kind : Nat) : State :=
  { s with noticePending := s.noticePending || s.notifies kind }

/-- R157, R159: raise a flag of drop `k`. A flag already set has no further effect. -/
def raiseDrop (k : DropNo) (f : DropFlag) (s : State) : State :=
  if (s.drop k).flag f then s
  else (s.notify f.kind).modDrop k fun d => { d with flags := d.flags.set (DropFlag.idx f) true }

/-- R157, R159: raise a device flag. -/
def raiseDevice (f : DeviceFlag) (s : State) : State :=
  if s.deviceFlag f then s
  else { s.notify f.kind with deviceFlags := s.deviceFlags.set (DeviceFlag.idx f) true }

/-! ### What a notice would list (R161) -/

/-- Drop `k` holds a set, unmasked flag. -/
def State.dropListed (s : State) (k : DropNo) : Bool :=
  allDropFlags.any fun f => (s.drop k).flag f && !s.settings.masks f.kind

/-- The device flag is set and unmasked. -/
def State.deviceListed (s : State) (f : DeviceFlag) : Bool := s.deviceFlag f && !s.settings.masks f.kind

/-- At least one unmasked flag is set in some entry; a notice built now would list something (R160, R162). -/
def State.listsSomething (s : State) : Bool :=
  allDrops.any s.dropListed || allDeviceFlags.any s.deviceListed

/-- At least one flag whose kind satisfies `p` is set in some entry (R160). -/
def State.anyFlagOfKind (s : State) (p : Nat → Bool) : Bool :=
  (allDrops.any fun k => allDropFlags.any fun f => (s.drop k).flag f && p f.kind) ||
    allDeviceFlags.any fun f => s.deviceFlag f && p f.kind

/-! ### Counters (R166, R167) -/

/-- The place of a drop counter, in the order READ_COUNTERS returns them (section 7.5). -/
def DropCounter.idx : DropCounter → Fin 10
  | .upForwarded => 0 | .downForwarded => 1 | .heartbeats => 2 | .faulty => 3 | .overrun => 4
  | .gatedUp => 5 | .gatedDown => 6 | .overflowUp => 7 | .overflowDown => 8 | .trips => 9

/-- The place of a device counter, in the order READ_COUNTERS returns them (section 7.5). -/
def DeviceCounter.idx : DeviceCounter → Fin 6
  | .trunkFaulty => 0 | .unrouted => 1 | .misaddressed => 2
  | .commands => 3 | .commandErrors => 4 | .commandsLost => 5

def DropState.count (d : DropState) (c : DropCounter) : BitVec 16 := d.live[DropCounter.idx c]
def State.deviceCount (s : State) (c : DeviceCounter) : BitVec 16 := s.liveDevice[DeviceCounter.idx c]

/-- R166, R167: advance a counter of drop `k`; an advance at 65535 sets it to 0 and raises WRAP. -/
def countDrop (k : DropNo) (c : DropCounter) (s : State) : State :=
  let s' := s.modDrop k fun d => { d with live := d.live.set (DropCounter.idx c) (d.count c + 1) }
  if (s.drop k).count c = 0xFFFF then raiseDrop k .wrap s' else s'

/-- R166, R167: advance a device counter; an advance at 65535 sets it to 0 and raises DEVICE_WRAP. -/
def countDevice (c : DeviceCounter) (s : State) : State :=
  let s' := { s with liveDevice := s.liveDevice.set (DeviceCounter.idx c) (s.deviceCount c + 1) }
  if s.deviceCount c = 0xFFFF then raiseDevice .deviceWrap s' else s'

end Sys2Proof.Machine
end

