-- ==== Sys2Proof/Machine/Gates.lean ====
section
/-! DEFINITION. Purges, and the comparison of the gates before and after an event (R51, R52, R126). -/
namespace Sys2Proof.Machine
open Sys2Proof

/-- Count each of `n` frames once, one after another. -/
def countTimes (k : DropNo) (c : DropCounter) : Nat → State → State
  | 0, s => s
  | n + 1, s => countTimes k c n (countDrop k c s)

/-- R51: remove every frame waiting upstream at drop `k` and count each GATED_UP. -/
def purgeUp (k : DropNo) (s : State) : State :=
  countTimes k .gatedUp (s.drop k).upQueue.length (s.modDrop k fun d => { d with upQueue := [] })

/-- R51: remove every frame waiting downstream at drop `k` and count each GATED_DOWN. -/
def purgeDown (k : DropNo) (s : State) : State :=
  countTimes k .gatedDown (s.drop k).downQueue.length (s.modDrop k fun d => { d with downQueue := [] })

/-- The purges of drop `k` at the end of an event that went from `before` to `after`. -/
def closeDropGates (before after : State) (k : DropNo) (s : State) : State :=
  let s := if before.upGate k && !after.upGate k then purgeUp k s else s
  if before.downGate k && !after.downGate k then purgeDown k s else s

/-- R51, R52, R126: a gate open before the event and closed after it purges its queue at the event. A gate
that closes and opens again within the event, or stays closed, purges nothing. -/
def closeGates (before after : State) : State := forDrops (closeDropGates before after) after

/-- One whole event: its work, then the purges of the gates it closed. -/
def event (work : State → State) (s : State) : State := closeGates s (work s)

end Sys2Proof.Machine
end

