-- ==== Sys2Proof/Machine/Monitors.lean ====
section
/-! DEFINITION. The monitor machine, trips and latching, entries to admission states, and the policy change
(chapters 4 and 6). The gates are views of the state, so a move re-derives them by itself (log 9). -/
namespace Sys2Proof.Machine
open Sys2Proof

/-! ### Entries to admission states -/

/-- R116: entry to LATCHED. -/
def enterLatched (k : DropNo) (s : State) : State :=
  raiseDrop k .latch (s.modDrop k fun d =>
    { d with admission := .latched
             latchTimer := startTimer (s.policyOf k).latchHold
             absenceSeen := d.level == .absent })

/-- R110, R112: entry to ADMITTED; run count, elapsed, repeat counter and decay timer are kept. -/
def enterAdmitted (k : DropNo) (s : State) : State :=
  raiseDrop k .admitted (s.modDrop k fun d => { d with admission := .admitted })

/-- R111, R112: entry to BARRED. -/
def enterBarred (k : DropNo) (s : State) : State :=
  raiseDrop k .barred (s.modDrop k fun d => { d with admission := .barred })

/-- The context that R30, R82 and R105 clear alike, with the RATE credit full at depth `depth`. Holds, flags,
counters, last faulty reason, queues, transmitter and presence are kept. -/
def DropState.clearContext (depth : Nat) (d : DropState) : DropState :=
  { d with monitors := Vector.replicate 4 .atReset, errWindow := [], credit := depth, silence := 0
           history := [], accepted := none, repeatCount := 0, decay := none, latchTimer := none
           absenceSeen := false, runCount := 0, elapsed := 0, injection := 0 }

/-- R105: entry to PROBATION, by whatever cause, under the policy in force. -/
def enterProbation (k : DropNo) (s : State) : State :=
  s.modDrop k fun d => { d.clearContext (s.policyOf k).depth with admission := .probation }

/-- R30, R106: entry to VACANT. -/
def enterVacant (k : DropNo) (s : State) : State :=
  s.modDrop k fun d => { d.clearContext (s.policyOf k).depth with admission := .vacant }

/-- R119 to R123: a release into PROBATION, with the RELEASE flag. -/
def release (k : DropNo) (s : State) : State := raiseDrop k .release (enterProbation k s)

/-! ### Trips (R70, R113 to R116) -/

/-- R115: an advance latches a drop in PROBATION or ADMITTED when the counter stands at or above a latch
limit above 0. -/
def State.latchesAt (s : State) (k : DropNo) : Bool :=
  ((s.drop k).admission == .probation || (s.drop k).admission == .admitted) &&
    decide (0 < (s.policyOf k).latchLimit) &&
    decide ((s.policyOf k).latchLimit ≤ (s.drop k).repeatCount)

/-- R113 to R115: advance the repeat counter, saturating at 15, restart the decay timer, and latch. -/
def advanceRepeat (k : DropNo) (s : State) : State :=
  let s' := s.modDrop k fun d =>
    { d with repeatCount := min 15 (d.repeatCount + 1), decay := some (.left (s.policyOf k).decayInterval) }
  if s'.latchesAt k then enterLatched k s' else s'

/-- R70: a trip sets the run count of a drop in PROBATION to 0. -/
def zeroRunInProbation (k : DropNo) (s : State) : State :=
  s.modDrop k fun d => if d.admission = .probation then { d with runCount := 0 } else d

/-- Change monitor record `m` of drop `k`. -/
def setMonitor (k : DropNo) (m : Monitor) (r : MonitorRec) (s : State) : State :=
  s.modDrop k fun d => d.setMon m r

/-- R70: a trip of monitor `m` of drop `k`, with all its effects. -/
def trip (k : DropNo) (m : Monitor) (s : State) : State :=
  let s := setMonitor k m { (s.drop k).mon m with state := .tripped, timer := none } s
  let s := countDrop k .trips (raiseDrop k (.trip m) s)
  let s := zeroRunInProbation k s
  if ((s.policyOf k).mon m).latch then advanceRepeat k s else s

/-! ### The machine of a running monitor (R66 to R69) -/

/-- Put a monitor into CLEAR, with no timer. -/
def clearMonitor (k : DropNo) (m : Monitor) (s : State) : State :=
  setMonitor k m { (s.drop k).mon m with state := .clear, timer := none } s

/-- Put a monitor into CLEAR with the CLEARED flag (R68, R69, R79, R84). -/
def recovered (k : DropNo) (m : Monitor) (s : State) : State :=
  raiseDrop k (.cleared m) (clearMonitor k m s)

/-- R68, R79: leave TRIPPED for RECOVERING, or for CLEAR when the recovery time is 0. -/
def startRecovery (k : DropNo) (m : Monitor) (s : State) : State :=
  let time := ((s.policyOf k).mon m).recovery
  if time = 0 then recovered k m s
  else setMonitor k m { (s.drop k).mon m with state := .recovering, timer := some (.left time) } s

/-- R66: from CLEAR with a true condition, to ALERT with its delay timer or, without a delay, a trip. -/
def alertOrTrip (k : DropNo) (m : Monitor) (s : State) : State :=
  let delay := ((s.policyOf k).mon m).tripDelay
  if delay = 0 then trip k m s
  else raiseDrop k (.alert m)
    (setMonitor k m { (s.drop k).mon m with state := .alert, timer := some (.left delay) } s)

/-- The moves of a running monitor whose condition becomes true (R66, R69). -/
def onConditionTrue (k : DropNo) (m : Monitor) (s : State) : State :=
  match ((s.drop k).mon m).state with
  | .clear => alertOrTrip k m s
  | .alert => s
  | .tripped => s
  | .recovering => setMonitor k m { (s.drop k).mon m with state := .tripped, timer := none } s

/-- The moves of a running monitor whose condition becomes false (R67, R68). -/
def onConditionFalse (k : DropNo) (m : Monitor) (s : State) : State :=
  match ((s.drop k).mon m).state with
  | .clear => s
  | .alert => clearMonitor k m s
  | .tripped => if ((s.policyOf k).mon m).auto then startRecovery k m s else s
  | .recovering => s

/-- R65: give a condition its value. A value that changes moves the monitor if it runs; a value that stays
is no event. -/
def setCondition (running : Bool) (k : DropNo) (m : Monitor) (v : Bool) (s : State) : State :=
  if ((s.drop k).mon m).condition = v then s
  else
    let s' := setMonitor k m { (s.drop k).mon m with condition := v } s
    if running then (if v then onConditionTrue k m s' else onConditionFalse k m s') else s'

/-- R65 outside a policy change: the monitor moves when it runs under the policy in force (R64). -/
def condition (k : DropNo) (m : Monitor) (v : Bool) (s : State) : State :=
  setCondition (s.runs k m) k m v s

/-! ### The ERR window (R72, R73) -/

/-- R72: the number of FAULTY marks. -/
def faultyMarks (w : List Mark) : Nat := w.count .faulty

/-- Keep the last `n` entries of a list (R72, R91). -/
def keepLast {α : Type} (n : Nat) (l : List α) : List α := l.drop (l.length - n)

/-- R73: the ERR condition judged on the window as it stands, true at K or more, false at L or fewer. -/
def judgeErr (running : Bool) (k : DropNo) (s : State) : State :=
  let f := faultyMarks (s.drop k).errWindow
  if (s.policyOf k).tripCount ≤ f then setCondition running k .err true s
  else if f ≤ (s.policyOf k).releaseCount then setCondition running k .err false s
  else s

/-- R72, R73: append a mark, drop the oldest beyond W, and re-evaluate the condition. -/
def appendMark (k : DropNo) (mark : Mark) (s : State) : State :=
  let s := s.modDrop k fun d =>
    { d with errWindow := keepLast (s.policyOf k).window (d.errWindow ++ [mark]) }
  judgeErr (s.runs k .err) k s

/-! ### Policy change (R83 to R88, R112, R114, R120) -/

/-- R84, step 1: a monitor that the change disables goes to CLEAR, with CLEARED from TRIPPED or RECOVERING. -/
def disableStep (old : Policy) (k : DropNo) (s : State) (m : Monitor) : State :=
  if (old.mon m).enable && !((s.policyOf k).mon m).enable then
    if ((s.drop k).mon m).closing then recovered k m s else clearMonitor k m s
  else s

/-- A monitor enabled in both policies: the ones that step 2 moves (R83). -/
def staysEnabled (old new : Policy) (m : Monitor) : Bool := (old.mon m).enable && (new.mon m).enable

/-- R86, step 2 for ERR. -/
def errParameters (old : Policy) (k : DropNo) (s : State) : State :=
  let new := s.policyOf k
  let running := staysEnabled old new .err
  if old.window ≠ new.window then
    setCondition running k .err false (s.modDrop k fun d => { d with errWindow := [] })
  else if old.tripCount ≠ new.tripCount ∨ old.releaseCount ≠ new.releaseCount then judgeErr running k s
  else s

/-- R87, step 2 for RATE. -/
def rateParameters (old : Policy) (k : DropNo) (s : State) : State :=
  let new := s.policyOf k
  let s := s.modDrop k fun d => { d with credit := min d.credit new.depth }
  if (s.drop k).credit = new.depth then setCondition (staysEnabled old new .rate) k .rate false s else s

/-- R88, step 2 for SIL. -/
def silParameters (old : Policy) (k : DropNo) (s : State) : State :=
  let new := s.policyOf k
  if old.silenceLimit ≠ new.silenceLimit then
    setCondition (staysEnabled old new .sil) k .sil (decide (new.silenceLimit ≤ (s.drop k).silence)) s
  else s

/-- R88, R92, step 2 for STAT: a change of Q or P empties the history. -/
def statParameters (old : Policy) (k : DropNo) (s : State) : State :=
  let new := s.policyOf k
  if old.persistence ≠ new.persistence ∨ old.acceptance ≠ new.acceptance then
    s.modDrop k fun d => { d with history := [] }
  else s

/-- R85, step 3: restart the timer of a monitor in ALERT or RECOVERING; with a value of 0 it moves at once. -/
def restartStep (k : DropNo) (s : State) (m : Monitor) : State :=
  let r := (s.drop k).mon m
  let p := (s.policyOf k).mon m
  match r.state with
  | .alert =>
    if p.tripDelay = 0 then trip k m s else setMonitor k m { r with timer := some (.left p.tripDelay) } s
  | .recovering =>
    if p.recovery = 0 then recovered k m s else setMonitor k m { r with timer := some (.left p.recovery) } s
  | .clear => s
  | .tripped => s

/-- R84, step 4: a monitor that the change enables starts in CLEAR and looks at its condition at once. -/
def enableStep (old : Policy) (k : DropNo) (s : State) (m : Monitor) : State :=
  if !(old.mon m).enable && ((s.policyOf k).mon m).enable then
    let s := clearMonitor k m s
    if ((s.drop k).mon m).condition then alertOrTrip k m s else s
  else s

/-- R112: the new G and probation limit of a drop in PROBATION, in this order. -/
def probationStep (k : DropNo) (s : State) : State :=
  let d := s.drop k
  let new := s.policyOf k
  if d.admission = .probation then
    if new.goodRun ≤ d.runCount then enterAdmitted k s
    else if 0 < new.probationLimit ∧ new.probationLimit ≤ d.elapsed then enterBarred k s
    else s
  else s

/-- R114: a policy change with another decay interval restarts a running decay timer. -/
def decayStep (old : Policy) (k : DropNo) (s : State) : State :=
  let new := s.policyOf k
  if old.decayInterval ≠ new.decayInterval ∧ (s.drop k).decay ≠ none then
    s.modDrop k fun d => { d with decay := some (.left new.decayInterval) }
  else s

/-- R120: a policy change with another latch hold starts, restarts or stops the timer of a LATCHED drop. -/
def latchHoldStep (old : Policy) (k : DropNo) (s : State) : State :=
  let new := s.policyOf k
  if (s.drop k).admission = .latched ∧ old.latchHold ≠ new.latchHold then
    s.modDrop k fun d => { d with latchTimer := startTimer new.latchHold }
  else s

/-- R83: the policy change of drop `k` from the record `old` to the record now in force. For a VACANT drop it
sets the RATE credit to the new depth and does nothing else (R63). -/
def policyChange (k : DropNo) (old : Policy) (s : State) : State :=
  if (s.drop k).isVacant then s.modDrop k fun d => { d with credit := (s.policyOf k).depth }
  else
    let s := allMonitors.foldl (disableStep old k) s
    let s := statParameters old k (silParameters old k (rateParameters old k (errParameters old k s)))
    let s := allMonitors.foldl (restartStep k) s
    let s := allMonitors.foldl (enableStep old k) s
    latchHoldStep old k (decayStep old k (probationStep k s))

end Sys2Proof.Machine
end

