-- ==== Sys2Proof/Machine/Fallback.lean ====
section
/-! DEFINITION. The loss timer, FALLBACK and its options (chapter 8). -/
namespace Sys2Proof.Machine
open Sys2Proof

/-- R152, R153: a policy change for every drop whose map index differs from the fallback index `fb`. `oldOf`
gives the record that governed a drop before. -/
def changePolicies (fb : Fin 8) (oldOf : DropNo → Policy) (s : State) : State :=
  forDrops (fun k s => if s.active.entries[k].policy = fb then s else policyChange k (oldOf k) s) s

/-- R150 to R152: the expiry of the loss timer. -/
def enterFallback (s : State) : State :=
  let before := s
  let s := raiseDevice .fallbackEnter
    { s with fallback := some s.settings.fallbackOption, lossTimer := none }
  if s.fallbackPolicyInForce then changePolicies s.settings.fallbackPolicy before.policyOf s else s

/-- R153: the end of FALLBACK. `fb` is the fallback index that was in force, `timeout` the time the loss
timer is started with; 0 leaves it stopped. -/
def exitFallback (fb : Fin 8) (timeout : Nat) (s : State) : State :=
  let wasPolicy := s.fallbackPolicyInForce
  let s := raiseDevice .fallbackExit { s with fallback := none, lossTimer := startTimer timeout }
  if wasPolicy then changePolicies fb (fun _ => s.policies[fb]) s else s

/-- R128, R148: what the arrival of a valid command does to the loss timer and to FALLBACK. -/
def controllerHeard (s : State) : State :=
  match s.fallback with
  | some _ => exitFallback s.settings.fallbackPolicy s.settings.timeout s
  | none => { s with lossTimer := startTimer s.settings.timeout }

end Sys2Proof.Machine
end

