-- ==== Sys2Proof/Machine/Status.lean ====
section
/-! DEFINITION. Heartbeats, acceptance by persistence, status classes and the probation run (chapter 5). -/
namespace Sys2Proof.Machine
open Sys2Proof

/-- The entry takes part and its interval contains the code (R96). -/
def ClassEntry.matchesCode (e : ClassEntry) (c : Byte) : Bool :=
  e.valid && decide (e.low.toNat ≤ c.toNat) && decide (c.toNat ≤ e.high.toNat)

/-- R96: the class of the lowest-numbered valid entry whose interval contains the code; OK without one. -/
def State.classOf (s : State) (c : Byte) : StatusClass :=
  match s.classes.toList.find? fun e => e.matchesCode c with
  | some e => e.cls
  | none => .ok

/-- R91, R93: append the code to the history, keep the last Q, and accept it when it occurs P times or more
and is not the accepted code. -/
def filterCode (k : DropNo) (c : Byte) (s : State) : State :=
  let p := s.policyOf k
  let history := keepLast p.persistence ((s.drop k).history ++ [c])
  let s := s.modDrop k fun d => { d with history := history }
  if (s.drop k).accepted ≠ some c ∧ p.acceptance ≤ history.count c then
    raiseDrop k .status (s.modDrop k fun d => { d with accepted := some c })
  else s

/-- R98: the value of the STAT condition by the table as it stands. -/
def State.statFaulty (s : State) (k : DropNo) : Bool :=
  match (s.drop k).accepted with
  | some c => s.classOf c == .fault
  | none => false

/-- R99: the two tests of a good heartbeat. -/
def State.heartbeatGood (s : State) (k : DropNo) : Bool :=
  (match (s.drop k).accepted with
    | some c => s.classOf c == .ok
    | none => true) && !(s.drop k).anyClosing

/-- R99, R110: judge a heartbeat of a drop in PROBATION; the advance that brings the run count to G admits. -/
def judgeRun (k : DropNo) (s : State) : State :=
  if (s.drop k).admission = .probation then
    if s.heartbeatGood k then
      let s := s.modDrop k fun d => { d with runCount := d.runCount + 1 }
      if (s.policyOf k).goodRun ≤ (s.drop k).runCount then enterAdmitted k s else s
    else s.modDrop k fun d => { d with runCount := 0 }
  else s

/-- R89: the taking of a heartbeat with code `c` for drop `k`, orders 1 to 7. The model's choice (log 20): a heartbeat
that clears a trip of SIL or ERR itself is judged by R99 on the monitors that its moves leave, although the table of
R100 calls a heartbeat after such a trip not good. -/
def takeHeartbeat (k : DropNo) (c : Byte) (s : State) : State :=
  let s := filterCode k c s
  let stat := s.statFaulty k
  let s := s.modDrop k fun d => { d with silence := 0 }
  let s := condition k .stat stat (condition k .sil false s)
  countDrop k .heartbeats (judgeRun k s)

end Sys2Proof.Machine
end

