-- ==== Sys2Proof/Machine/Traffic.lean ====
section
/-! DEFINITION. The upstream and downstream paths, the drop transmitters and the Trunk Output Arbiter
(chapters 1 and 3), and the arrival of a command (section 7.1). -/
namespace Sys2Proof.Machine
open Sys2Proof

/-- R37: a queue has room while it holds fewer than four waiting frames. -/
def hasRoom (q : List HeldFrame) : Bool := decide (q.length < dropQueueRoom)

/-! ### The upstream path (R40 to R44) -/

/-- R41: the faulty outcome. -/
def faultyOutcome (k : DropNo) (reason : FaultyReason) (s : State) : State :=
  let s := countDrop k .faulty s
  appendMark k .faulty (s.modDrop k fun d => { d with lastFaulty := some reason })

/-- R44: the gate, the room and the tail of the upstream queue, steps 5 to 7. -/
def offerUpstream (k : DropNo) (f : HeldFrame) (s : State) : State :=
  if !s.upGate k then countDrop k .gatedUp s
  else if !hasRoom (s.drop k).upQueue then raiseDrop k .overflow (countDrop k .overflowUp s)
  else s.modDrop k fun d => { d with upQueue := d.upQueue ++ [f] }

/-- R43: the RATE credit, step 4, then the gate. -/
def dataFrame (k : DropNo) (f : HeldFrame) (s : State) : State :=
  if (s.policyOf k).rate.enable then
    if (s.drop k).credit < f.octets.length then condition k .rate true (countDrop k .overrun s)
    else offerUpstream k f (s.modDrop k fun d => { d with credit := d.credit - f.octets.length })
  else offerUpstream k f s

/-- R42: a good frame leaves its mark; a HEARTBEAT is consumed at step 3, DATA goes on to step 4. -/
def goodFrame (k : DropNo) (f : HeldFrame) (s : State) : State :=
  let s := appendMark k .good s
  if frameKind f.octets = kindHeartbeat then takeHeartbeat k (octetAt (framePayload f.octets) 0) s
  else dataFrame k f s

/-- R40 to R44: a classified frame on the upstream path of drop `k`. -/
def upstream (k : DropNo) (f : HeldFrame) (s : State) : State :=
  if (s.drop k).isVacant then countDrop k .gatedUp s
  else match f.cls.reason with
    | some reason => faultyOutcome k reason s
    | none =>
      if 0 < (s.drop k).injection then
        faultyOutcome k .injected (s.modDrop k fun d => { d with injection := d.injection - 1 })
      else goodFrame k f s

/-- The frame as the port's receiver and frame checker hand it on (R2, R9). -/
def arrived (port : Port) (f : LineFrame) (s : State) : HeldFrame :=
  let r := receive f
  { octets := r.stored, cls := classify port s.active.inRange r }

/-- R146: the frame was whole when the last reset took place, a COMMAND reset, and its arrival falls together with that
reset and is taken after it (log 10). Whatever was whole at another reset is lost: the part did not run next (R16). -/
def State.fallsWithReset (f : LineFrame) (s : State) : Bool := s.lastCause == .command && f.ended + 1 == s.resets

/-- R2, R3, R146: a frame arrives when it has an octet and no reset took place between its start and its last octet. -/
def arrives (f : LineFrame) (s : State) : Bool :=
  !f.octets.isEmpty && f.begun == f.ended && (f.ended == s.resets || s.fallsWithReset f)

/-- An arrival at drop port `k`. A frame that does not arrive is nothing to the part (R2, R3). -/
def dropArrival (k : DropNo) (f : LineFrame) (s : State) : State :=
  if arrives f s then upstream k (arrived (.drop k) f s) s else s

/-! ### The arrival of a command (R127, R128) -/

/-- R127: a source of 0000h or FFFFh makes a command invalid. -/
def validSource (a : Addr) : Bool := a != 0x0000 && a != 0xFFFF

/-- R127, R128: a COMMAND frame addressed to the part. -/
def commandArrival (f : HeldFrame) (s : State) : State :=
  let src := frameSrc f.octets
  if !validSource src then countDevice .commandErrors s
  else
    let s := controllerHeard s
    if s.commandQueue.length < commandQueueRoom then
      { s with commandQueue := s.commandQueue ++ [{ src := src, payload := framePayload f.octets }] }
    else raiseDevice .mgmtOverrun (countDevice .commandsLost s)

/-! ### The downstream path (R47 to R49) -/

/-- R48: a frame offered to drop `k`. -/
def offerDownstream (k : DropNo) (f : HeldFrame) (s : State) : State :=
  if !s.downGate k then countDrop k .gatedDown s
  else if !hasRoom (s.drop k).downQueue then raiseDrop k .overflow (countDrop k .overflowDown s)
  else s.modDrop k fun d => { d with downQueue := d.downQueue ++ [f] }

/-- R49: one copy for each drop whose active size is nonzero, in drop order. -/
def broadcast (f : HeldFrame) (s : State) : State :=
  forDrops (fun k s => if s.active.size k = 0 then s else offerDownstream k f s) s

/-- R47: a classified frame at the trunk port. -/
def downstream (f : HeldFrame) (s : State) : State :=
  if f.cls.reason.isSome then countDevice .trunkFaulty s
  else match s.active.route (frameDest f.octets) with
    | .own =>
      if frameKind f.octets = kindCommand then commandArrival f s else countDevice .misaddressed s
    | .broadcast => broadcast f s
    | .drop k => offerDownstream k f s
    | .none => countDevice .unrouted s

/-- An arrival at the trunk port, as at a drop port. -/
def trunkArrival (f : LineFrame) (s : State) : State :=
  if arrives f s then downstream (arrived .trunk f s) s else s

/-! ### The drop transmitters (R5, R50) -/

/-- R5: an IDLE drop transmitter takes the head frame of its non-empty queue. -/
def startDrop (k : DropNo) (s : State) : State :=
  match (s.drop k).tx, (s.drop k).downQueue with
  | none, f :: rest => s.modDrop k fun d => { d with tx := some f, downQueue := rest }
  | none, [] => s
  | some _, _ => s

/-- R5, R50: the completion of drop `k`'s transmission; an IDLE transmitter completes nothing. -/
def completeDrop (k : DropNo) (s : State) : State :=
  match (s.drop k).tx with
  | some _ => countDrop k .downForwarded (s.modDrop k fun d => { d with tx := none })
  | none => s

/-! ### The Trunk Output Arbiter (R53 to R56, R161, R162) -/

/-- R54: the drops in cyclic order, beginning after the one the pointer names, which comes last. -/
def searchOrder (p : DropNo) : List DropNo := allDrops.map fun i => p + 1 + i

/-- R54, order 3: grant the head frame of the first non-empty upstream queue and move the pointer. -/
def grantUpstream (s : State) : State :=
  match (searchOrder s.pointer).find? fun k => !(s.drop k).upQueue.isEmpty with
  | none => s
  | some k =>
    match (s.drop k).upQueue with
    | [] => s
    | f :: rest =>
      { s.modDrop k (fun d => { d with upQueue := rest }) with
        trunkTx := some { octets := f.octets, source := .upstream k }, pointer := k }

/-- A list of truth values as a number, the first one at bit 0. -/
def bits : List Bool → Nat
  | [] => 0
  | b :: rest => (if b then 1 else 0) + 2 * bits rest

/-- The code of the device state: 00h NORMAL, 01h FALLBACK (section 7.5). -/
def State.deviceStateCode (s : State) : Byte := if s.fallback.isSome then 1 else 0

/-- R161: the NOTICE payload. -/
def noticePayload (s : State) : List Byte :=
  octets2 (bits (allDrops.map s.dropListed)) ++
    [octet (bits (allDeviceFlags.map s.deviceListed)), s.deviceStateCode]

/-- R161, R8: the NOTICE frame built at its grant. -/
def noticeFrame (s : State) : List Byte :=
  buildFrame s.active.header.controller s.active.header.own kindNotice (noticePayload s)

/-- R55, R162: the grant of the notice, or of an upstream frame when the notice would list nothing. -/
def grantNotice (s : State) : State :=
  if s.listsSomething then
    { s with noticePending := false, trunkTx := some { octets := noticeFrame s, source := .notice } }
  else grantUpstream { s with noticePending := false }

/-- R53, R54: the grant decision, made only while the trunk transmitter is IDLE. -/
def grant (s : State) : State :=
  if s.trunkTx.isSome then s
  else match s.responseQueue with
    | r :: rest =>
      { s with responseQueue := rest
               trunkTx := some { octets := r.octets, source := .response r.isReset } }
    | [] => if s.noticePending && s.holdoff.isNone then grantNotice s else grantUpstream s

end Sys2Proof.Machine
end

