-- ==== Sys2Proof/Machine/Operands.lean ====
section
/-! DEFINITION. The octet layouts of section 7.5: field codes, the Settings Record, policy records, class
entries and the results of the reads, with the range checks of R60, R97 and R136. -/
namespace Sys2Proof.Machine
open Sys2Proof

/-! ### Field codes -/

def boolCode (b : Bool) : Byte := if b then 1 else 0
def boolOf (b : Byte) : Option Bool := if b = 0 then some false else if b = 1 then some true else none

def Action.code : Action → Byte
  | .none => 0 | .up => 1 | .down => 2 | .both => 3
def actionOf (b : Byte) : Option Action :=
  if b = 0 then some .none else if b = 1 then some .up else if b = 2 then some .down
  else if b = 3 then some .both else none

def StatusClass.code : StatusClass → Byte
  | .ok => 1 | .degraded => 2 | .fault => 3
def classOfCode (b : Byte) : Option StatusClass :=
  if b = 1 then some .ok else if b = 2 then some .degraded else if b = 3 then some .fault else none

def FallbackOption.code : FallbackOption → Byte
  | .report => 0 | .isolate => 1 | .policy => 2
def fallbackOptionOf (b : Byte) : Option FallbackOption :=
  if b = 0 then some .report else if b = 1 then some .isolate else if b = 2 then some .policy else none

def Admission.code : Admission → Byte
  | .vacant => 0 | .probation => 1 | .admitted => 2 | .latched => 3 | .barred => 4

def MonitorState.code : MonitorState → Byte
  | .clear => 0 | .alert => 1 | .tripped => 2 | .recovering => 3

def FaultyReason.code : FaultyReason → Byte
  | .runt => 1 | .check => 2 | .length => 3 | .kind => 4 | .source => 5 | .injected => 6

def ResetCause.code : ResetCause → Byte
  | .powerOn => 1 | .line => 2 | .command => 3

def Level.code : Level → Byte
  | .absent => 0 | .present => 1

/-- A monitor number octet (section 7.5). -/
def monitorOf (b : Byte) : Option Monitor :=
  if b = 0 then some .err else if b = 1 then some .rate else if b = 2 then some .sil
  else if b = 3 then some .stat else none

/-- A drop or class entry number, 00h..0Fh. -/
def dropOf (b : Byte) : Option DropNo := if h : b.toNat < 16 then some ⟨b.toNat, h⟩ else none

/-- A policy index, 00h..07h. -/
def policyNoOf (b : Byte) : Option (Fin 8) := if h : b.toNat < 8 then some ⟨b.toNat, h⟩ else none

/-- A map or counter bank: false for 00h (STAGING, LIVE), true for 01h (ACTIVE, SNAPSHOT). -/
def bankOf (b : Byte) : Option Bool := boolOf b

/-- A selector: a drop or entry number, or 10h for HEADER or DEVICE. -/
inductive Selector where
  | entry (k : DropNo)
  | whole
  deriving DecidableEq, Repr

def selectorOf (b : Byte) : Option Selector :=
  if b = 0x10 then some .whole else (dropOf b).map .entry

/-- A hold request applied to a hold: 00h KEEP, 01h SET, 02h CLEAR (R124). -/
def holdRequestOf (b : Byte) : Option (Bool → Bool) :=
  if b = 0 then some id else if b = 1 then some (fun _ => true) else if b = 2 then some (fun _ => false)
  else none

/-! ### The Settings Record (R135, R136) -/

/-- The ranges of R135. -/
def Settings.inRange (c : Settings) : Bool :=
  decide (c.timeout ≤ 3600) && decide (1 ≤ c.debounce) && decide (c.debounce ≤ 255) &&
    decide (c.holdoff ≤ 10000)

/-- The 11 octets of the Settings Record. -/
def encodeSettings (c : Settings) : List Byte :=
  octets2 c.timeout ++ [c.fallbackOption.code, octet c.fallbackPolicy.val, octet c.debounce,
    boolCode c.snapshot] ++ octets16 c.noticeMask ++ [boolCode c.suspend] ++ octets2 c.holdoff

/-- The record of 11 octets, when every field lies in its range or set (R136). -/
def decodeSettings (l : List Byte) : Option Settings := do
  let option ← fallbackOptionOf (octetAt l 2)
  let policy ← policyNoOf (octetAt l 3)
  let snapshot ← boolOf (octetAt l 5)
  let suspend ← boolOf (octetAt l 8)
  let c : Settings :=
    { timeout := (wordAt l 0).toNat, fallbackOption := option, fallbackPolicy := policy
      debounce := (octetAt l 4).toNat, snapshot := snapshot, noticeMask := wordAt l 6
      suspend := suspend, holdoff := (wordAt l 9).toNat }
  if c.inRange then some c else none

/-! ### Policy records (R59, R60) -/

/-- The times of a monitor group lie in 0..60000 ms (section 4.1). -/
def MonitorPolicy.inRange (p : MonitorPolicy) : Bool :=
  decide (p.tripDelay ≤ 60000) && decide (p.recovery ≤ 60000)

/-- R60: every field in the range of section 4.1, the cross-field checks included. -/
def Policy.inRange (p : Policy) : Bool :=
  p.err.inRange && p.rate.inRange && p.sil.inRange && p.stat.inRange &&
  decide (4 ≤ p.window) && decide (p.window ≤ 16) &&
  decide (1 ≤ p.tripCount) && decide (p.tripCount ≤ p.window) &&
  decide (p.releaseCount < p.tripCount) &&
  decide (248 ≤ p.depth) && decide (p.depth ≤ 16384) &&
  decide (1 ≤ p.refill) && decide (p.refill ≤ 1024) &&
  decide (10 ≤ p.silenceLimit) && decide (p.silenceLimit ≤ 60000) &&
  decide (3 ≤ p.persistence) && decide (p.persistence ≤ 10) &&
  decide (p.persistence / 2 + 1 ≤ p.acceptance) && decide (p.acceptance ≤ p.persistence) &&
  decide (p.latchLimit ≤ 15) &&
  decide (1 ≤ p.decayInterval) && decide (p.decayInterval ≤ 3600) &&
  decide (p.latchHold ≤ 3600) &&
  decide (1 ≤ p.goodRun) && decide (p.goodRun ≤ 255) &&
  decide (p.probationLimit ≤ 3600)

/-- The octets of a monitor group behind its own fields: delay, recovery, action, auto, latch. -/
def encodeMonitor (p : MonitorPolicy) : List Byte :=
  octets2 p.tripDelay ++ octets2 p.recovery ++ [p.action.code, boolCode p.auto, boolCode p.latch]

/-- The 52 octets of a policy record. -/
def encodePolicy (p : Policy) : List Byte :=
  [boolCode p.err.enable, octet p.window, octet p.tripCount, octet p.releaseCount] ++ encodeMonitor p.err ++
  [boolCode p.rate.enable] ++ octets2 p.depth ++ octets2 p.refill ++ encodeMonitor p.rate ++
  [boolCode p.sil.enable] ++ octets2 p.silenceLimit ++ encodeMonitor p.sil ++
  [boolCode p.stat.enable, octet p.persistence, octet p.acceptance] ++ encodeMonitor p.stat ++
  [octet p.latchLimit] ++ octets2 p.decayInterval ++ octets2 p.latchHold ++
  [boolCode p.replacementRelease, octet p.goodRun] ++ octets2 p.probationLimit

/-- A monitor group with its enable at octet `e` and its times at octet `t`, the action, auto and latch
behind them (section 7.5). -/
def decodeMonitor (l : List Byte) (e t : Nat) : Option MonitorPolicy := do
  let enable ← boolOf (octetAt l e)
  let action ← actionOf (octetAt l (t + 4))
  let auto ← boolOf (octetAt l (t + 5))
  let latch ← boolOf (octetAt l (t + 6))
  some { enable := enable, tripDelay := (wordAt l t).toNat, recovery := (wordAt l (t + 2)).toNat
         action := action, auto := auto, latch := latch }

/-- The record of 52 octets, when every field passes (R60). -/
def decodePolicy (l : List Byte) : Option Policy := do
  let err ← decodeMonitor l 0 4
  let rate ← decodeMonitor l 11 16
  let sil ← decodeMonitor l 23 26
  let stat ← decodeMonitor l 33 36
  let replacement ← boolOf (octetAt l 48)
  let p : Policy :=
    { err := err, window := (octetAt l 1).toNat, tripCount := (octetAt l 2).toNat
      releaseCount := (octetAt l 3).toNat
      rate := rate, depth := (wordAt l 12).toNat, refill := (wordAt l 14).toNat
      sil := sil, silenceLimit := (wordAt l 24).toNat
      stat := stat, persistence := (octetAt l 34).toNat, acceptance := (octetAt l 35).toNat
      latchLimit := (octetAt l 43).toNat, decayInterval := (wordAt l 44).toNat
      latchHold := (wordAt l 46).toNat, replacementRelease := replacement
      goodRun := (octetAt l 49).toNat, probationLimit := (wordAt l 50).toNat }
  if p.inRange then some p else none

/-! ### Class entries (R97) -/

def encodeClass (e : ClassEntry) : List Byte := [boolCode e.valid, e.low, e.high, e.cls.code]

/-- R97: refused when the low code is above the high code, or valid or class lies outside its set. -/
def decodeClass (valid low high cls : Byte) : Option ClassEntry := do
  let v ← boolOf valid
  let c ← classOfCode cls
  if low.toNat ≤ high.toNat then some { valid := v, low := low, high := high, cls := c } else none

/-! ### Size codes (R20, R25) -/

/-- R25: a size code is 0 or 2..12. -/
def sizeCodeValid (c : Nat) : Bool := decide (c = 0) || (decide (2 ≤ c) && decide (c ≤ 12))

/-! ### Results of the reads -/

def encodeHeader (h : MapHeader) : List Byte := octets16 h.planeBase ++ octets16 h.own ++ octets16 h.controller

/-- READ_MAP of an entry: for the ACTIVE bank with its base and, when the size is nonzero, the last address of
its range (R26, R137). -/
def encodeEntry (m : DropMap) (active : Bool) (k : DropNo) : List Byte :=
  let e := m.entries[k]
  [octet e.sizeCode, octet e.policy.val] ++
    if active then
      octets2 (m.base k) ++ if m.size k = 0 then [] else octets2 (m.base k + m.size k - 1)
    else []

/-- The class octet of READ_DROP: 00h when no code is accepted (R96). -/
def State.classCode (s : State) (k : DropNo) : Byte :=
  match (s.drop k).accepted with
  | some c => (s.classOf c).code
  | none => 0

/-- The 32 octets of READ_DROP (R139, section 7.5). -/
def encodeDrop (s : State) (k : DropNo) : List Byte :=
  let d := s.drop k
  [d.admission.code, boolCode (s.upGate k), boolCode (s.downGate k), boolCode d.upHold, boolCode d.downHold,
   octet (s.policyIndex k).val] ++
  allMonitors.map (fun m => (d.mon m).state.code) ++
  allMonitors.map (fun m => boolCode (d.mon m).condition) ++
  [octet (faultyMarks d.errWindow), octet d.errWindow.length] ++
  octets2 d.credit ++
  [boolCode d.accepted.isSome, d.accepted.getD 0, s.classCode k, octet d.history.length,
   octet d.repeatCount, octet d.runCount] ++
  octets2 d.elapsed ++
  [boolCode d.suspended, d.level.code, octet d.injection, octet d.upQueue.length, octet d.downQueue.length,
   match d.lastFaulty with
   | some r => r.code
   | none => 0]

/-- READ_EVENTS of a drop: three sets, then the eight single flags (section 7.5). -/
def encodeDropFlags (d : DropState) : List Byte :=
  [octet (bits (allMonitors.map fun m => d.flag (.alert m))),
   octet (bits (allMonitors.map fun m => d.flag (.trip m))),
   octet (bits (allMonitors.map fun m => d.flag (.cleared m)))] ++
  [DropFlag.latch, .release, .admitted, .barred, .status, .presence, .wrap, .overflow].map
    fun f => boolCode (d.flag f)

/-- READ_EVENTS of the device: five flags, one octet each. -/
def encodeDeviceFlags (s : State) : List Byte := allDeviceFlags.map fun f => boolCode (s.deviceFlag f)

/-- READ_COUNTERS: the counters of one entry in their order, two octets each. -/
def encodeCounters (l : List (BitVec 16)) : List Byte := l.flatMap octets16

/-! ### Response statuses and the row of a command -/

/-- The statuses of section 7.5. -/
inductive Status where
  | ok | unknownCommand | badLength | badIndex | badValue | badMap | notApplicable
  deriving DecidableEq, Repr

def Status.code : Status → Byte
  | .ok => 0 | .unknownCommand => 1 | .badLength => 2 | .badIndex => 3
  | .badValue => 4 | .badMap => 5 | .notApplicable => 6

/-- The BAD_MAP reasons, in the order of R27. -/
inductive MapReason where
  | planeEnd | ownReserved | ownInRange | ctrlInvalid
  deriving DecidableEq, Repr

def MapReason.code : MapReason → Byte
  | .planeEnd => 1 | .ownReserved => 2 | .ownInRange => 3 | .ctrlInvalid => 4

end Sys2Proof.Machine
end

