-- ==== Sys2Proof/Machine/Engine.lean ====
section
/-! DEFINITION. The Management Engine: what each command does at its taking, its response, and the taking
itself (chapters 2, 4 to 10, commands; sections 7.2 to 7.5). -/
namespace Sys2Proof.Machine
open Sys2Proof

/-- What carrying a command out gives: its status, its result octets and the state its effects left (R131,
R132). -/
structure Reply where
  status : Status
  results : List Byte
  state : State
  deriving DecidableEq, Repr

/-- A command that is refused changes nothing (R131). -/
def refuse (st : Status) (s : State) : Reply := { status := st, results := [], state := s }

/-- A command carried out (R131). -/
def done (results : List Byte) (s : State) : Reply := { status := .ok, results := results, state := s }

/-- R131, check 4: a number octet that fails with BAD_INDEX. -/
def withIndex {α : Type} (n : Option α) (s : State) (f : α → Reply) : Reply :=
  match n with
  | some a => f a
  | none => refuse .badIndex s

/-- R131, check 4: a value that fails with BAD_VALUE. -/
def withValue {α : Type} (n : Option α) (s : State) (f : α → Reply) : Reply :=
  match n with
  | some a => f a
  | none => refuse .badValue s

/-! ### Device commands -/

/-- R134. -/
def cmdGetInfo (p : List Byte) (s : State) : Reply :=
  match p with
  | [] => done ([0x2E, 0x91, 0x10, 0x16, 0x03, s.lastCause.code, s.deviceStateCode] ++
      octets16 s.active.header.own) s
  | _ :: _ => refuse .badLength s

/-- R136. -/
def cmdReadSettings (p : List Byte) (s : State) : Reply :=
  match p with
  | [] => done (encodeSettings s.settings) s
  | _ :: _ => refuse .badLength s

/-- R15: a changed debounce restarts every running candidate with its target kept. The model's choice (log 19): a
candidate that has expired, its acceptance not yet taken, is restarted too. -/
def restartCandidates (debounce : Nat) (s : State) : State :=
  forDrops (fun k s => s.modDrop k fun d =>
    { d with candidate := d.candidate.map fun c => { c with remaining := .left debounce } }) s

/-- R149: a changed management timeout. `old` is the record replaced. -/
def timeoutChanged (old : Settings) (s : State) : State :=
  match s.fallback with
  | none => { s with lossTimer := startTimer s.settings.timeout }
  | some _ => if s.settings.timeout = 0 then exitFallback old.fallbackPolicy 0 s else s

/-- R152, last line: a changed fallback policy while FALLBACK with POLICY is in force. -/
def fallbackPolicyChanged (old : Settings) (s : State) : State :=
  if s.fallbackPolicyInForce then
    forDrops (fun k s => policyChange k s.policies[old.fallbackPolicy] s) s
  else s

/-- R160: a changed notice mask or suspend, judged on the values after the write. -/
def noticeFieldsChanged (old : Settings) (s : State) : State :=
  let new := s.settings
  let addressed := s.active.header.controller != 0
  if new.suspend then
    if old.suspend then s else { s with noticePending := false }
  else if old.suspend then
    { s with noticePending := s.noticePending || (addressed && s.listsSomething) }
  else
    let unmasked := fun n => old.masks n && !new.masks n
    { s with noticePending := s.noticePending || (addressed && s.anyFlagOfKind unmasked) }

/-- R136: replace the record and hand each changed field to its block. -/
def applySettings (new : Settings) (s : State) : State :=
  let old := s.settings
  let s := { s with settings := new }
  let s := if old.debounce = new.debounce then s else restartCandidates new.debounce s
  let s := if old.timeout = new.timeout then s else timeoutChanged old s
  let s := if old.fallbackPolicy = new.fallbackPolicy then s else fallbackPolicyChanged old s
  noticeFieldsChanged old s

/-- R136. -/
def cmdWriteSettings (p : List Byte) (s : State) : Reply :=
  if p.length = 11 then withValue (decodeSettings p) s fun c => done [] (applySettings c s)
  else refuse .badLength s

/-! ### Map commands -/

/-- R26, R137. -/
def cmdReadMap (p : List Byte) (s : State) : Reply :=
  match p with
  | [b, sel] =>
    withValue (bankOf b) s fun active => withIndex (selectorOf sel) s fun
      | .whole => done (encodeHeader (if active then s.active else s.staging).header) s
      | .entry k => done (encodeEntry (if active then s.active else s.staging) active k) s
  | _ => refuse .badLength s

/-- R24. -/
def cmdWriteMapHeader (p : List Byte) (s : State) : Reply :=
  if p.length = 6 then
    let base := wordAt p 0
    if base = 0x0000 ∨ base = 0xFFFF then refuse .badValue s
    else done [] { s with staging := { s.staging with
      header := { planeBase := base, own := wordAt p 2, controller := wordAt p 4 } } }
  else refuse .badLength s

/-- R25. -/
def cmdWriteMapEntry (p : List Byte) (s : State) : Reply :=
  match p with
  | [d, c, i] =>
    withIndex (dropOf d) s fun k =>
      if sizeCodeValid c.toNat then
        withValue (policyNoOf i) s fun pol =>
          done [] { s with staging := { s.staging with
            entries := s.staging.entries.set k { sizeCode := c.toNat, policy := pol } } }
      else refuse .badValue s
  | _ => refuse .badLength s

/-- R27: the first check that fails. -/
def mapReason (m : DropMap) : Option MapReason :=
  if 0xFFFE < m.header.planeBase.toNat + m.total - 1 then some .planeEnd
  else if m.header.own = 0x0000 ∨ m.header.own = 0xFFFF then some .ownReserved
  else if (m.owner m.header.own).isSome then some .ownInRange
  else if m.header.controller = 0xFFFF ∨ m.header.controller = m.header.own ∨
    (m.owner m.header.controller).isSome then some .ctrlInvalid
  else none

/-- R30: the vacating of drop `k`. -/
def vacate (k : DropNo) (s : State) : State := enterVacant k (purgeDown k (purgeUp k s))

/-- R31: the re-ranging of drop `k`. -/
def rerange (k : DropNo) (s : State) : State := enterProbation k (purgeDown k (purgeUp k s))

/-- R29, R32: a changed policy index is a policy change while the map index is in force. -/
def indexChange (old : DropMap) (k : DropNo) (s : State) : State :=
  if old.entries[k].policy ≠ s.active.entries[k].policy ∧ s.fallbackPolicyInForce = false then
    policyChange k s.policies[old.entries[k].policy] s
  else s

/-- The six cases of section 2.6 for drop `k`; `old` is the map before the apply. -/
def applyDrop (old : DropMap) (k : DropNo) (s : State) : State :=
  let oldSize := old.size k
  let newSize := s.active.size k
  if newSize = 0 then
    if oldSize = 0 then indexChange old k s else vacate k s
  else if oldSize = newSize ∧ old.base k = s.active.base k then indexChange old k s
  else rerange k s

/-- R35: what a changed controller address does to notice-pending, after MAP_APPLIED is raised. -/
def controllerChanged (old : DropMap) (s : State) : State :=
  if s.active.header.controller = 0 then { s with noticePending := false }
  else if old.header.controller = 0 then
    { s with noticePending := s.noticePending || (!s.settings.suspend && s.listsSomething) }
  else s

/-- R28 to R35: the change-over of a successful apply. -/
def applyStaging (s : State) : State :=
  let old := s.active
  let s := forDrops (applyDrop old) { s with active := s.staging }
  controllerChanged old (raiseDevice .mapApplied s)

/-- R27, R28, R137. -/
def cmdApplyMap (p : List Byte) (s : State) : Reply :=
  match p with
  | [] =>
    match mapReason s.staging with
    | some r => { status := .badMap, results := [r.code], state := s }
    | none => done [] (applyStaging s)
  | _ :: _ => refuse .badLength s

/-! ### Policies and classes -/

/-- R59, R138. -/
def cmdReadPolicy (p : List Byte) (s : State) : Reply :=
  match p with
  | [i] => withIndex (policyNoOf i) s fun n => done (encodePolicy s.policies[n]) s
  | _ => refuse .badLength s

/-- R60, R63: replace the record, a policy change for every drop whose policy in force is that index. -/
def replacePolicy (n : Fin 8) (new : Policy) (s : State) : State :=
  let old := s.policies[n]
  forDrops (fun k s => if s.policyIndex k = n then policyChange k old s else s)
    { s with policies := s.policies.set n new }

/-- R60, R138. -/
def cmdWritePolicy (p : List Byte) (s : State) : Reply :=
  match p with
  | [] => refuse .badLength s
  | i :: record =>
    if record.length = 52 then
      withIndex (policyNoOf i) s fun n =>
        withValue (decodePolicy record) s fun new => done [] (replacePolicy n new s)
    else refuse .badLength s

/-- R97, R138. -/
def cmdReadClass (p : List Byte) (s : State) : Reply :=
  match p with
  | [i] => withIndex (dropOf i) s fun n => done (encodeClass s.classes[n]) s
  | _ => refuse .badLength s

/-- R97, R138. -/
def cmdWriteClass (p : List Byte) (s : State) : Reply :=
  match p with
  | [i, v, lo, hi, c] =>
    withIndex (dropOf i) s fun n =>
      withValue (decodeClass v lo hi c) s fun e => done [] { s with classes := s.classes.set n e }
  | _ => refuse .badLength s

/-! ### Drop commands -/

/-- R139. -/
def cmdReadDrop (p : List Byte) (s : State) : Reply :=
  match p with
  | [d] => withIndex (dropOf d) s fun k => done (encodeDrop s k) s
  | _ => refuse .badLength s

/-- R124, R140. -/
def cmdHold (p : List Byte) (s : State) : Reply :=
  match p with
  | [d, u, w] =>
    withIndex (dropOf d) s fun k => withValue (holdRequestOf u) s fun up =>
      withValue (holdRequestOf w) s fun down =>
        if (s.drop k).isVacant then refuse .notApplicable s
        else done [] (s.modDrop k fun d => { d with upHold := up d.upHold, downHold := down d.downHold })
  | _ => refuse .badLength s

/-- R119, R140: target LATCH. A target octet outside the set fails here (log 5). -/
def cmdRecoverLatch (p : List Byte) (s : State) : Reply :=
  match p with
  | [d, t, _] =>
    withIndex (dropOf d) s fun k =>
      if t ≠ 0 then refuse .badValue s
      else if (s.drop k).admission = .latched then done [] (release k s)
      else refuse .notApplicable s
  | _ => refuse .badLength s

/-- R123, R140: target BARRED. -/
def cmdRecoverBarred (p : List Byte) (s : State) : Reply :=
  match p with
  | [d, t, _] =>
    withIndex (dropOf d) s fun k =>
      if t ≠ 1 then refuse .badValue s
      else if (s.drop k).admission = .barred then done [] (release k s)
      else refuse .notApplicable s
  | _ => refuse .badLength s

/-- R79, R140: target MONITOR. -/
def cmdRecoverMonitor (p : List Byte) (s : State) : Reply :=
  match p with
  | [d, t, n] =>
    withIndex (dropOf d) s fun k =>
      if t ≠ 2 then refuse .badValue s
      else withIndex (monitorOf n) s fun m =>
        let r := (s.drop k).mon m
        if r.state = .tripped ∧ r.condition = false then done [] (startRecovery k m s)
        else refuse .notApplicable s
  | _ => refuse .badLength s

/-- R172: an injection count is limited at 16. -/
def injectionLimit : Nat := 16

/-- R141, R172: target ERR. A target octet outside the set fails here (log 5). -/
def cmdInjectErr (p : List Byte) (s : State) : Reply :=
  match p with
  | [d, t, n] =>
    withIndex (dropOf d) s fun k =>
      if t ≠ 0 then refuse .badValue s
      else if n.toNat < 1 ∨ 16 < n.toNat then refuse .badValue s
      else if (s.drop k).isVacant then refuse .notApplicable s
      else done [] (s.modDrop k fun d => { d with injection := min injectionLimit (d.injection + n.toNat) })
  | _ => refuse .badLength s

/-- R101, R141: target HEARTBEAT. -/
def cmdInjectHeartbeat (p : List Byte) (s : State) : Reply :=
  match p with
  | [d, t, c] =>
    withIndex (dropOf d) s fun k =>
      if t ≠ 1 then refuse .badValue s
      else if (s.drop k).isVacant then refuse .notApplicable s
      else done [] (takeHeartbeat k c s)
  | _ => refuse .badLength s

/-! ### Events and counters -/

/-- Clear every flag of drop `k` (R158). -/
def clearDropFlags (k : DropNo) (s : State) : State :=
  s.modDrop k fun d => { d with flags := Vector.replicate 20 false }

/-- Clear every flag of the device (R158). -/
def clearDeviceFlags (s : State) : State := { s with deviceFlags := Vector.replicate 5 false }

/-- R142, R158. -/
def cmdReadEvents (p : List Byte) (s : State) : Reply :=
  match p with
  | [sel] => withIndex (selectorOf sel) s fun
    | .entry k => done (encodeDropFlags (s.drop k)) (clearDropFlags k s)
    | .whole => done (encodeDeviceFlags s) (clearDeviceFlags s)
  | _ => refuse .badLength s

/-- R142, R158. -/
def cmdAckAllEvents (p : List Byte) (s : State) : Reply :=
  match p with
  | [] => done [] (clearDeviceFlags (forDrops clearDropFlags s))
  | _ :: _ => refuse .badLength s

/-- R143, R170. -/
def cmdReadCounters (p : List Byte) (s : State) : Reply :=
  match p with
  | [sel, b] =>
    withIndex (selectorOf sel) s fun e => withValue (bankOf b) s fun snapshot =>
      match e with
      | .entry k =>
        done (encodeCounters (if snapshot then (s.drop k).snap else (s.drop k).live).toList) s
      | .whole => done (encodeCounters (if snapshot then s.snapDevice else s.liveDevice).toList) s
  | _ => refuse .badLength s

/-- R169: every counter of both banks becomes 0. -/
def clearCounters (s : State) : State :=
  let s := forDrops (fun k s => s.modDrop k fun d =>
    { d with live := Vector.replicate 10 0, snap := Vector.replicate 10 0 }) s
  { s with liveDevice := Vector.replicate 6 0, snapDevice := Vector.replicate 6 0 }

/-- R143, R169. -/
def cmdClearCounters (p : List Byte) (s : State) : Reply :=
  match p with
  | [] => done [] (clearCounters s)
  | _ :: _ => refuse .badLength s

/-- R144: the engine state becomes RESET_PENDING. -/
def cmdReset (p : List Byte) (s : State) : Reply :=
  match p with
  | [] => done [] { s with engine := .resetPending }
  | _ :: _ => refuse .badLength s

/-- R131, checks 1 and 2: a payload too short, or a code outside the command set. -/
def cmdUnknown (payload : List Byte) (s : State) : Reply :=
  if payload.length < 2 then refuse .badLength s else refuse .unknownCommand s

/-! ### The taking (R130 to R133) -/

/-- The rows of the opcode table that are takings of commands. -/
inductive CommandRow where
  | getInfo | readSettings | writeSettings | readMap | writeMapHeader | writeMapEntry | applyMap
  | readPolicy | writePolicy | readClass | writeClass | readDrop | hold
  | recoverLatch | recoverBarred | recoverMonitor | injectErr | injectHeartbeat
  | readEvents | ackAllEvents | readCounters | clearCounters | reset | unknown
  deriving DecidableEq, Repr

/-- Section 7.5: the row that takes a command with this payload, by its code and, for RECOVER and INJECT, its
target octet. A target missing or outside its set goes to the first target's row (log 5). -/
def rowOf (payload : List Byte) : CommandRow :=
  if payload.length < 2 then .unknown
  else
    let target := octetAt payload 3
    match (octetAt payload 0).toNat with
    | 0x01 => .getInfo
    | 0x02 => .readSettings
    | 0x03 => .writeSettings
    | 0x10 => .readMap
    | 0x11 => .writeMapHeader
    | 0x12 => .writeMapEntry
    | 0x13 => .applyMap
    | 0x20 => .readPolicy
    | 0x21 => .writePolicy
    | 0x22 => .readClass
    | 0x23 => .writeClass
    | 0x30 => .readDrop
    | 0x31 => .hold
    | 0x32 => if target = 2 then .recoverMonitor else if target = 1 then .recoverBarred else .recoverLatch
    | 0x33 => if target = 1 then .injectHeartbeat else .injectErr
    | 0x40 => .readEvents
    | 0x41 => .ackAllEvents
    | 0x50 => .readCounters
    | 0x51 => .clearCounters
    | 0x7F => .reset
    | _ => .unknown

/-- R131, R133: check a command and carry it out whole. -/
def carryOut (payload : List Byte) (s : State) : Reply :=
  let p := payload.drop 2
  match rowOf payload with
  | .getInfo => cmdGetInfo p s
  | .readSettings => cmdReadSettings p s
  | .writeSettings => cmdWriteSettings p s
  | .readMap => cmdReadMap p s
  | .writeMapHeader => cmdWriteMapHeader p s
  | .writeMapEntry => cmdWriteMapEntry p s
  | .applyMap => cmdApplyMap p s
  | .readPolicy => cmdReadPolicy p s
  | .writePolicy => cmdWritePolicy p s
  | .readClass => cmdReadClass p s
  | .writeClass => cmdWriteClass p s
  | .readDrop => cmdReadDrop p s
  | .hold => cmdHold p s
  | .recoverLatch => cmdRecoverLatch p s
  | .recoverBarred => cmdRecoverBarred p s
  | .recoverMonitor => cmdRecoverMonitor p s
  | .injectErr => cmdInjectErr p s
  | .injectHeartbeat => cmdInjectHeartbeat p s
  | .readEvents => cmdReadEvents p s
  | .ackAllEvents => cmdAckAllEvents p s
  | .readCounters => cmdReadCounters p s
  | .clearCounters => cmdClearCounters p s
  | .reset => cmdReset p s
  | .unknown => cmdUnknown payload s

/-- R132: the RESPONSE frame to a command, with the own address `own` read before the command's effect. -/
def responseFrame (own : Addr) (c : Command) (r : Reply) : List Byte :=
  buildFrame c.src own kindResponse
    ([octetAt c.payload 0, octetAt c.payload 1, r.status.code] ++ r.results)

/-- The response that carries the COMMAND reset with it is the OK response to RESET (R144, R145). -/
def answersReset (c : Command) (r : Reply) : Bool := rowOf c.payload == .reset && r.status == .ok

/-- R130 to R133: take command `c`, already off the queue: count it, carry it out, count an error, and place
its response. -/
def takeCommand (c : Command) (s : State) : State :=
  let own := s.active.header.own
  let r := carryOut c.payload (countDevice .commands s)
  let s := if r.status = .ok then r.state else countDevice .commandErrors r.state
  { s with responseQueue := s.responseQueue ++
      [{ octets := responseFrame own c r, isReset := answersReset c r }] }

/-- R130: READY, and the response queue holds fewer than two responses. -/
def State.mayTake (s : State) : Bool :=
  s.engine == .ready && decide (s.responseQueue.length < responseQueueRoom)

/-- R130: the taking of the head command, when the three conditions hold. -/
def takeHead (s : State) : State :=
  match s.commandQueue with
  | [] => s
  | c :: rest => if s.mayTake then event (takeCommand c) { s with commandQueue := rest } else s

end Sys2Proof.Machine
end

