-- ==== Sys2Proof/Machine/Time.lean ====
section
/-! DEFINITION. The millisecond tick, the second boundary, and the steps they make due (R14, R17, R67, R69,
R75, R77, R108, R111, R114, R120, R150, R164). Each due step changes nothing when it is not due. -/
namespace Sys2Proof.Machine
open Sys2Proof

/-! ### The millisecond tick -/

/-- The level a sample reads: high PRESENT, low ABSENT (R14). -/
def sampleLevel (pres : BitVec 16) (k : DropNo) : Level := if pres.getLsbD k.val then .present else .absent

/-- R14: one sample of a presence line. A candidate whose time ends waits for its acceptance (log 3). -/
def samplePresence (debounce : Nat) (lv : Level) (d : DropState) : DropState :=
  match d.candidate with
  | none =>
    if lv = d.level then d else { d with candidate := some { target := lv, remaining := .left debounce } }
  | some c =>
    if lv = d.level then { d with candidate := none }
    else { d with candidate := some { c with remaining := tickCountdown c.remaining } }

/-- R15: the first sample after a reset sets the level, with no flag and no candidate. -/
def firstSample (lv : Level) (d : DropState) : DropState := { d with level := lv, candidate := none }

/-- R74: the refill of the RATE credit. -/
def refillCredit (p : Policy) (d : DropState) : DropState :=
  if d.credit < p.depth then { d with credit := min p.depth (d.credit + p.refill) } else d

/-- R76: the silence count stops at 60000. -/
def silenceMax : Nat := 60000

/-- R76: the silence count of a drop that is not VACANT advances. -/
def advanceSilence (d : DropState) : DropState :=
  if d.isVacant then d else { d with silence := min silenceMax (d.silence + 1) }

/-- R17: the delay and recovery timers count down. -/
def tickMonitors (d : DropState) : DropState :=
  allMonitors.foldl (fun d m => d.setMon m { d.mon m with timer := tickTimer (d.mon m).timer }) d

/-- What one tick does to drop `k`; `first` says whether it is the first sample after a reset. -/
def tickDrop (first : Bool) (pres : BitVec 16) (k : DropNo) (s : State) : State :=
  s.modDrop k fun d =>
    let d := if first then firstSample (sampleLevel pres k) d
      else samplePresence s.settings.debounce (sampleLevel pres k) d
    tickMonitors (advanceSilence (refillCredit (s.policyOf k) d))

/-- R17: one millisecond. Every 1000th tick is a second boundary. The model's choice (log 22): the sample, the refill, the
silence count and the countdowns of a tick come before every expiry that falls on it. -/
def tick (pres : BitVec 16) (s : State) : State :=
  let first := !s.sampled
  forDrops (tickDrop first pres)
    { s with timebase := s.timebase + 1
             boundaryDue := decide ((s.timebase + 1) % 1000 = 0)
             sampled := true
             holdoff := tickTimer s.holdoff
             pins := { s.pins with pres := pres } }

/-! ### Steps that a tick makes due -/

/-- R14, R118, R121: the accepted level is handed to the Admission Controller. -/
def handLevel (k : DropNo) (lv : Level) (s : State) : State :=
  if (s.drop k).admission = .latched then
    match lv with
    | .absent => s.modDrop k fun d => { d with absenceSeen := true }
    | .present =>
      if (s.drop k).absenceSeen && (s.policyOf k).replacementRelease then release k s else s
  else s

/-- R14: the acceptance of a presence change whose candidate has expired. -/
def acceptPresence (k : DropNo) (s : State) : State :=
  match (s.drop k).candidate with
  | some { target := t, remaining := .expired } =>
    handLevel k t (raiseDrop k .presence (s.modDrop k fun d => { d with level := t, candidate := none }))
  | some { target := _, remaining := .left _ } => s
  | none => s

/-- R75: the credit has reached the depth while the RATE condition is true. -/
def State.rateFullDue (s : State) (k : DropNo) : Bool :=
  !(s.drop k).isVacant && ((s.drop k).mon .rate).condition &&
    decide ((s.policyOf k).depth ≤ (s.drop k).credit)

/-- R75: the RATE condition becomes false. -/
def rateFull (k : DropNo) (s : State) : State :=
  if s.rateFullDue k then condition k .rate false s else s

/-- R77: the silence count has reached the limit while the SIL condition is false. -/
def State.silenceDue (s : State) (k : DropNo) : Bool :=
  !(s.drop k).isVacant && !((s.drop k).mon .sil).condition &&
    decide ((s.policyOf k).silenceLimit ≤ (s.drop k).silence)

/-- R77: the SIL condition becomes true. -/
def silenceReached (k : DropNo) (s : State) : State :=
  if s.silenceDue k then condition k .sil true s else s

/-- Monitor `m` of drop `k` is in state `st` with its timer at its expiry. -/
def State.timerDue (s : State) (k : DropNo) (m : Monitor) (st : MonitorState) : Bool :=
  ((s.drop k).mon m).state == st && ((s.drop k).mon m).timer == some .expired

/-- R67: the expiry of a delay timer. -/
def delayExpiry (k : DropNo) (m : Monitor) (s : State) : State :=
  if s.timerDue k m .alert then trip k m s else s

/-- R69: the expiry of a recovery timer. -/
def recoveryExpiry (k : DropNo) (m : Monitor) (s : State) : State :=
  if s.timerDue k m .recovering then recovered k m s else s

/-- R164: the expiry of the holdoff timer; the grant decision it may bring is due after it. -/
def holdoffExpiry (s : State) : State := if s.holdoff = some .expired then { s with holdoff := none } else s

/-! ### The second boundary -/

/-- R108: elapsed stops at 3600. -/
def elapsedMax : Nat := 3600

/-- R108: elapsed of a PRESENT drop in PROBATION advances by one second. -/
def advanceElapsed (d : DropState) : DropState :=
  if d.admission = .probation ∧ d.level = .present ∧ d.elapsed < elapsedMax then
    { d with elapsed := d.elapsed + 1 }
  else d

/-- R168: copy the live counters of a drop and set them to 0. -/
def copyDropCounters (d : DropState) : DropState := { d with snap := d.live, live := Vector.replicate 10 0 }

/-- What a second boundary does to drop `k`: elapsed, the timers in seconds, and the snapshot copy. The model's choice
(log 22): elapsed is advanced before a latch hold expiry of the same boundary, which so never counts for the drop that
it releases (R108). -/
def boundaryDrop (k : DropNo) (s : State) : State :=
  s.modDrop k fun d =>
    let d := advanceElapsed { d with decay := tickTimer d.decay, latchTimer := tickTimer d.latchTimer }
    if s.settings.snapshot then copyDropCounters d else d

/-- R17, R108, R148, R168: the second boundary, once for each that the timebase reaches. The model's choice (log 21):
what the boundary itself makes due (the loss expiry, a probation limit, a decay or latch hold expiry) is taken after
its snapshot copy, so the counts of those steps belong to the new second. The model's choice (log 22): those expiries
also come after its advance of elapsed, its countdowns and its bar, which are made under the old policy (R88, R111). -/
def secondBoundary (s : State) : State :=
  if s.boundaryDue then
    let s := forDrops boundaryDrop { s with boundaryDue := false, lossTimer := tickTimer s.lossTimer }
    if s.settings.snapshot then
      { s with snapDevice := s.liveDevice, liveDevice := Vector.replicate 6 0 }
    else s
  else s

/-- R111: elapsed stands at or above a probation limit above 0. -/
def State.limitDue (s : State) (k : DropNo) : Bool :=
  (s.drop k).admission == .probation && decide (0 < (s.policyOf k).probationLimit) &&
    decide ((s.policyOf k).probationLimit ≤ (s.drop k).elapsed)

/-- R111: the drop enters BARRED. -/
def limitReached (k : DropNo) (s : State) : State := if s.limitDue k then enterBarred k s else s

/-- R114: the expiry of the decay timer. -/
def decayExpiry (k : DropNo) (s : State) : State :=
  let d := s.drop k
  let again : Timer := some (.left (s.policyOf k).decayInterval)
  if d.decay = some .expired then
    if d.admission = .latched then s.modDrop k fun d => { d with decay := none }
    else if d.anyClosing then s.modDrop k fun d => { d with decay := again }
    else if 1 < d.repeatCount then
      s.modDrop k fun d => { d with repeatCount := d.repeatCount - 1, decay := again }
    else s.modDrop k fun d => { d with repeatCount := 0, decay := none }
  else s

/-- R120: the expiry of the latch hold timer. -/
def latchHoldExpiry (k : DropNo) (s : State) : State :=
  if (s.drop k).latchTimer = some .expired then
    if (s.drop k).admission = .latched then release k s
    else s.modDrop k fun d => { d with latchTimer := none }
  else s

/-- R150: the expiry of the loss timer, in NORMAL. -/
def lossExpiry (s : State) : State :=
  if s.lossTimer = some .expired ∧ s.fallback = none then enterFallback s else s

end Sys2Proof.Machine
end

