-- ==== Sys2Proof/Machine/Settle.lean ====
section
/-! DEFINITION. When due steps are taken. Each step is a row of the table and one indivisible event; what one
event makes due is taken by its own row, or at the latest before the next event it must precede (log 1, 3). -/
namespace Sys2Proof.Machine
open Sys2Proof

/-- One event, if it is due. -/
def eventIf (due : Bool) (work : State → State) (s : State) : State := if due then event work s else s

/-- The probation limits that a boundary reached (R111), before any expiry of that boundary (the model's choice, log 22). -/
def settleLimits (s : State) : State := forDrops (fun k s => eventIf (s.limitDue k) (limitReached k) s) s

/-- Limits, then the drop transmitters that can start (R5), then one grant decision (R53). -/
def settleLinks (s : State) : State := grant (forDrops startDrop (settleLimits s))

/-- R130: the engine takes commands for as long as it can, at most `n`, each followed by the grant decision of
its response (R53, R133). -/
def drain : Nat → State → State
  | 0, s => s
  | n + 1, s =>
    match s.commandQueue with
    | [] => s
    | _ :: _ => if s.mayTake then drain n (grant (takeHead s)) else s

/-- Take every step that must come before any other event: limits, starts, the grant and the takings. -/
def settle (s : State) : State :=
  let s := settleLinks s
  drain s.commandQueue.length s

/-- R75, R77: the conditions that a tick changed. -/
def settleConditions (s : State) : State :=
  forDrops (fun k s =>
    let s := eventIf (s.rateFullDue k) (rateFull k) s
    eventIf (s.silenceDue k) (silenceReached k) s) s

/-- The state an event from outside finds: nothing that must precede it is left. -/
def ready (s : State) : State := settle (settleConditions (settle s))

/-- One event among the due ones, and what it makes due in turn. A step that changes nothing is not due. -/
def takeDue (due : Bool) (work : State → State) (s : State) : State :=
  if due then settle (event work s) else s

/-- Timers of drop `k` in milliseconds that have reached their expiry. -/
def flushDrop (k : DropNo) (s : State) : State :=
  let s := takeDue ((s.drop k).candidate.any fun c => c.remaining == .expired) (acceptPresence k) s
  let s := allMonitors.foldl (fun s m => takeDue (s.timerDue k m .alert) (delayExpiry k m) s) s
  allMonitors.foldl (fun s m => takeDue (s.timerDue k m .recovering) (recoveryExpiry k m) s) s

/-- Timers of drop `k` in seconds that have reached their expiry. -/
def flushSeconds (k : DropNo) (s : State) : State :=
  let s := takeDue ((s.drop k).decay == some .expired) (decayExpiry k) s
  takeDue ((s.drop k).latchTimer == some .expired) (latchHoldExpiry k) s

/-- Some timer or candidate of the drop has reached its expiry. -/
def DropState.expired (d : DropState) : Bool :=
  (d.candidate.any fun c => c.remaining == .expired) || (allMonitors.any fun m => (d.mon m).timer == some .expired) ||
    d.decay == some .expired || d.latchTimer == some .expired

/-- Some expiry, acceptance or boundary is due. -/
def State.expired (s : State) : Bool :=
  s.boundaryDue || s.lossTimer == some .expired || s.holdoff == some .expired || allDrops.any fun k => (s.drop k).expired

/-- Take every expiry, acceptance and boundary that is still due, in this order (DESIGN CHOICE, log 3; every
other order can be had by explicit rows, but for what logs 21 and 22 name). -/
def flushAll (s : State) : State :=
  let s := forDrops flushDrop s
  let s := takeDue s.boundaryDue secondBoundary s
  let s := forDrops flushSeconds s
  let s := takeDue (s.lossTimer == some .expired) lossExpiry s
  takeDue (s.holdoff == some .expired) holdoffExpiry s

/-- Take what is due; with nothing due there is nothing to take. -/
def flush (s : State) : State := if s.expired then flushAll s else s

/-- Everything due, with nothing else coming: what `step` does on an empty queue (log 4). -/
def catchUp (s : State) : State := whenRunning s fun s => ready (flush (ready s))

end Sys2Proof.Machine
end

