-- ==== Sys2Proof/Machine/CommandRows.lean ====
section
/-! DEFINITION. The meanings of the rows that are takings of commands (R130 to R133). -/
namespace Sys2Proof.Machine
open Sys2Proof

/-- The taking of the head command when it is this row's and the engine may take it; otherwise no taking. A
limit, a start or a grant that is due comes first (log 1, 5). -/
def takeRow (row : CommandRow) (s : State) : State :=
  let s := settleLinks s
  match s.commandQueue with
  | [] => s
  | c :: _ => if rowOf c.payload = row then takeHead s else s

/-- GET_INFO (R134). -/
def execGetInfo (s : State) : Host.Outcome State Fault Refusal := .next (whenRunning s (takeRow .getInfo))

/-- READ_SETTINGS (R136). -/
def execReadSettings (s : State) : Host.Outcome State Fault Refusal := .next (whenRunning s (takeRow .readSettings))

/-- WRITE_SETTINGS (R136, R149, R152, R160). -/
def execWriteSettings (s : State) : Host.Outcome State Fault Refusal := .next (whenRunning s (takeRow .writeSettings))

/-- READ_MAP (R26, R137). -/
def execReadMap (s : State) : Host.Outcome State Fault Refusal := .next (whenRunning s (takeRow .readMap))

/-- WRITE_MAP_HEADER (R24). -/
def execWriteMapHeader (s : State) : Host.Outcome State Fault Refusal := .next (whenRunning s (takeRow .writeMapHeader))

/-- WRITE_MAP_ENTRY (R25). -/
def execWriteMapEntry (s : State) : Host.Outcome State Fault Refusal := .next (whenRunning s (takeRow .writeMapEntry))

/-- APPLY_MAP (R27 to R35). -/
def execApplyMap (s : State) : Host.Outcome State Fault Refusal := .next (whenRunning s (takeRow .applyMap))

/-- READ_POLICY (R59). -/
def execReadPolicy (s : State) : Host.Outcome State Fault Refusal := .next (whenRunning s (takeRow .readPolicy))

/-- WRITE_POLICY (R60, R63). -/
def execWritePolicy (s : State) : Host.Outcome State Fault Refusal := .next (whenRunning s (takeRow .writePolicy))

/-- READ_CLASS (R97). -/
def execReadClass (s : State) : Host.Outcome State Fault Refusal := .next (whenRunning s (takeRow .readClass))

/-- WRITE_CLASS (R97). -/
def execWriteClass (s : State) : Host.Outcome State Fault Refusal := .next (whenRunning s (takeRow .writeClass))

/-- READ_DROP (R139). -/
def execReadDrop (s : State) : Host.Outcome State Fault Refusal := .next (whenRunning s (takeRow .readDrop))

/-- HOLD (R124, R140). -/
def execHold (s : State) : Host.Outcome State Fault Refusal := .next (whenRunning s (takeRow .hold))

/-- RECOVER_LATCH (R119). -/
def execRecoverLatch (s : State) : Host.Outcome State Fault Refusal := .next (whenRunning s (takeRow .recoverLatch))

/-- RECOVER_BARRED (R123). -/
def execRecoverBarred (s : State) : Host.Outcome State Fault Refusal := .next (whenRunning s (takeRow .recoverBarred))

/-- RECOVER_MONITOR (R79). -/
def execRecoverMonitor (s : State) : Host.Outcome State Fault Refusal := .next (whenRunning s (takeRow .recoverMonitor))

/-- INJECT_ERR (R172). -/
def execInjectErr (s : State) : Host.Outcome State Fault Refusal := .next (whenRunning s (takeRow .injectErr))

/-- INJECT_HEARTBEAT (R101). -/
def execInjectHeartbeat (s : State) : Host.Outcome State Fault Refusal := .next (whenRunning s (takeRow .injectHeartbeat))

/-- READ_EVENTS (R142, R158). -/
def execReadEvents (s : State) : Host.Outcome State Fault Refusal := .next (whenRunning s (takeRow .readEvents))

/-- ACK_ALL_EVENTS (R142, R158). -/
def execAckAllEvents (s : State) : Host.Outcome State Fault Refusal := .next (whenRunning s (takeRow .ackAllEvents))

/-- READ_COUNTERS (R143). -/
def execReadCounters (s : State) : Host.Outcome State Fault Refusal := .next (whenRunning s (takeRow .readCounters))

/-- CLEAR_COUNTERS (R169). -/
def execClearCounters (s : State) : Host.Outcome State Fault Refusal := .next (whenRunning s (takeRow .clearCounters))

/-- RESET (R144). -/
def execReset (s : State) : Host.Outcome State Fault Refusal := .next (whenRunning s (takeRow .reset))

/-- UNKNOWN_COMMAND (R131). -/
def execUnknownCommand (s : State) : Host.Outcome State Fault Refusal := .next (whenRunning s (takeRow .unknown))

end Sys2Proof.Machine
end

