-- ==== Sys2Proof/Machine/Resets.lean ====
section
/-! DEFINITION. The three kinds of reset, and the trunk transmission completion that brings the COMMAND reset
(R16, R18, R23, R145). -/
namespace Sys2Proof.Machine
open Sys2Proof

/-- The part held in reset for `cause`: every block at its reset values, the transmitters IDLE and every queue
empty. Reception ends at every receiver (R3). The maps' own address waits for the straps, and the cause is recorded
at the end (R4, R16, R38, R147; log 8). -/
def holdInReset (cause : ResetCause) (s : State) : State :=
  { State.afterStartUp s.pins.asel with
    phase := .held cause, resets := s.resets + 1, lastCause := s.lastCause, pins := s.pins, pending := s.pending }

/-- R16: the supply came up during this reset, so the cause is POWER_ON whatever stopped the part. -/
def powerOnReset (s : State) : State :=
  holdInReset .powerOn { s with pins := { s.pins with supplyStable := false } }

/-- A RESET_N low of this many microseconds is taken as a reset (R16). -/
def lineResetMicros : Nat := 10

/-- R16: RESET_N low for 10 us or more stops the running part with cause LINE, and returns a part in start-up
to reset with the cause it had. A shorter low is ignored. -/
def lineReset (lowMicros : Nat) (s : State) : State :=
  if lowMicros < lineResetMicros then s
  else
    let s := { s with pins := { s.pins with resetNHigh := false } }
    match s.phase with
    | .running => holdInReset .line s
    | .startUp cause => holdInReset cause s
    | .held _ => s

/-- R16: the hold conditions as they now stand; the reset is released when both have ended. -/
def resetRelease (supplyStable resetNHigh : Bool) (s : State) : State :=
  match s.phase with
  | .held cause =>
    let s := { s with pins := { s.pins with supplyStable := supplyStable, resetNHigh := resetNHigh } }
    if supplyStable && resetNHigh then { s with phase := .startUp cause } else s
  | .startUp _ => s
  | .running => s

/-- R16, R18, R23, R147: the part starts running, with the straps sampled and the cause recorded. A frame begun
while the part was held or in start-up is lost too (R3, R16). -/
def endOfStartUp (straps : BitVec 4) (s : State) : State :=
  match s.phase with
  | .startUp cause =>
    { State.afterStartUp straps with
      resets := s.resets + 1, lastCause := cause, pins := { s.pins with asel := straps }, pending := s.pending }
  | .held _ => s
  | .running => s

/-- R107, R145: a drop after a COMMAND reset. It keeps its debounced level alone (R15). -/
def resetDrop (k : DropNo) (s : State) : State :=
  s.modDrop k fun d =>
    { DropState.atReset with
      admission := if s.active.size k = 0 then .vacant else .probation
      credit := (s.policyOf k).depth
      level := d.level }

/-- R145: the COMMAND reset. Maps, Policy Table, Status Class Table and Settings Record are kept, and the loss
timer starts with the kept timeout (R155). Reception ends at every receiver (R3). -/
def commandReset (s : State) : State :=
  forDrops resetDrop
    { State.afterStartUp s.pins.asel with
      resets := s.resets + 1, pins := s.pins, staging := s.staging, active := s.active, policies := s.policies, classes := s.classes
      settings := s.settings, lastCause := .command, lossTimer := startTimer s.settings.timeout
      drops := s.drops, pending := s.pending }

/-- R5, R145, R164: the completion of the trunk transmission, reported to the frame's source. -/
def completeTrunk (s : State) : State :=
  match s.trunkTx with
  | none => s
  | some t =>
    let s := { s with trunkTx := none }
    match t.source with
    | .upstream k => countDrop k .upForwarded s
    | .response false => s
    | .response true => commandReset s
    | .notice => { s with holdoff := startTimer s.settings.holdoff }

end Sys2Proof.Machine
end

