-- ==== Sys2Proof/Machine/ResetRows.lean ====
section
/-! DEFINITION. The meanings of the reset rows (R16). A reset needs no step taken before it: it loses whatever
was due (R4, R38, R129). -/
namespace Sys2Proof.Machine
open Sys2Proof

/-- POWER_ON_RESET (R16). -/
def execPowerOnReset (s : State) : Host.Outcome State Fault Refusal := .next (powerOnReset s)

/-- LINE_RESET (R16). -/
def execLineReset (lowMicros : Nat) (s : State) : Host.Outcome State Fault Refusal :=
  .next (lineReset lowMicros s)

/-- RESET_RELEASE (R16). -/
def execResetRelease (supplyStable resetNHigh : Bool) (s : State) : Host.Outcome State Fault Refusal :=
  .next (resetRelease supplyStable resetNHigh s)

/-- END_OF_START_UP (R16, R18, R23). -/
def execEndOfStartUp (straps : BitVec 4) (s : State) : Host.Outcome State Fault Refusal :=
  .next (endOfStartUp straps s)

end Sys2Proof.Machine
end

