-- ==== Sys2Proof/Machine/TimeRows.lean ====
section
/-! DEFINITION. The meanings of the rows of the timebase. A tick finds nothing due; the steps that ticks make
due may be taken in any order among themselves (log 3), but for what logs 21 and 22 fix. -/
namespace Sys2Proof.Machine
open Sys2Proof

/-- MILLISECOND_TICK (R14, R17, R74, R76). -/
def execMillisecondTick (pres : BitVec 16) (s : State) : Host.Outcome State Fault Refusal :=
  .next (whenRunning s fun s => tick pres (catchUp s))

/-- PRESENCE_CHANGE_ACCEPTED (R14, R118, R121). -/
def execPresenceChangeAccepted (k : DropNo) (s : State) : Host.Outcome State Fault Refusal :=
  .next (whenRunning s fun s => event (acceptPresence k) (settle s))

/-- RATE_CREDIT_FULL (R75). -/
def execRateCreditFull (k : DropNo) (s : State) : Host.Outcome State Fault Refusal :=
  .next (whenRunning s fun s => event (rateFull k) (settle s))

/-- SILENCE_LIMIT_REACHED (R77). -/
def execSilenceLimitReached (k : DropNo) (s : State) : Host.Outcome State Fault Refusal :=
  .next (whenRunning s fun s => event (silenceReached k) (settle s))

/-- DELAY_TIMER_EXPIRY (R67, R70). -/
def execDelayTimerExpiry (k : DropNo) (m : Monitor) (s : State) : Host.Outcome State Fault Refusal :=
  .next (whenRunning s fun s => event (delayExpiry k m) (settle s))

/-- RECOVERY_TIMER_EXPIRY (R69). -/
def execRecoveryTimerExpiry (k : DropNo) (m : Monitor) (s : State) : Host.Outcome State Fault Refusal :=
  .next (whenRunning s fun s => event (recoveryExpiry k m) (settle s))

/-- SECOND_BOUNDARY (R17, R108, R168). -/
def execSecondBoundary (s : State) : Host.Outcome State Fault Refusal :=
  .next (whenRunning s fun s => event secondBoundary (settle s))

/-- PROBATION_LIMIT_REACHED (R111). -/
def execProbationLimitReached (k : DropNo) (s : State) : Host.Outcome State Fault Refusal :=
  .next (whenRunning s (event (limitReached k)))

/-- DECAY_TIMER_EXPIRY (R114). -/
def execDecayTimerExpiry (k : DropNo) (s : State) : Host.Outcome State Fault Refusal :=
  .next (whenRunning s fun s => event (decayExpiry k) (settle s))

/-- LATCH_HOLD_EXPIRY (R120). -/
def execLatchHoldExpiry (k : DropNo) (s : State) : Host.Outcome State Fault Refusal :=
  .next (whenRunning s fun s => event (latchHoldExpiry k) (settle s))

/-- MANAGEMENT_LOSS_EXPIRY (R150 to R152). The model's choice (log 22): the tick's own work, with the RATE and SIL
conditions that it changes (R75, R77), the boundary's own work and a probation limit reached at it come first, under the
old policy, where R88 and R111 allow either order. -/
def execManagementLossExpiry (s : State) : Host.Outcome State Fault Refusal :=
  .next (whenRunning s fun s => event lossExpiry (ready s))

/-- HOLDOFF_EXPIRY (R164). -/
def execHoldoffExpiry (s : State) : Host.Outcome State Fault Refusal :=
  .next (whenRunning s fun s => event holdoffExpiry (settle s))

end Sys2Proof.Machine
end

