-- ==== Sys2Proof/Machine/TrafficRows.lean ====
section
/-! DEFINITION. The meanings of the rows of frames and transmitters. An arrival or a completion is an event from
outside: it finds the state that `ready` leaves. -/
namespace Sys2Proof.Machine
open Sys2Proof

/-- DROP_ARRIVAL (R40 to R44). -/
def execDropArrival (k : DropNo) (f : LineFrame) (s : State) : Host.Outcome State Fault Refusal :=
  .next (whenRunning s fun s => event (dropArrival k f) (ready s))

/-- TRUNK_ARRIVAL (R47 to R49, R127, R128). -/
def execTrunkArrival (f : LineFrame) (s : State) : Host.Outcome State Fault Refusal :=
  .next (whenRunning s fun s => event (trunkArrival f) (ready s))

/-- DROP_TRANSMISSION_COMPLETION (R5, R50). -/
def execDropTransmissionCompletion (k : DropNo) (s : State) : Host.Outcome State Fault Refusal :=
  .next (whenRunning s fun s => event (completeDrop k) (ready s))

/-- TRUNK_TRANSMISSION_COMPLETION (R5, R57, R145, R164). -/
def execTrunkTransmissionCompletion (s : State) : Host.Outcome State Fault Refusal :=
  .next (whenRunning s fun s => event completeTrunk (ready s))

/-- DROP_TRANSMITTER_START (R5). -/
def execDropTransmitterStart (k : DropNo) (s : State) : Host.Outcome State Fault Refusal :=
  .next (whenRunning s (startDrop k))

/-- GRANT_DECISION (R53, R54). -/
def execGrantDecision (s : State) : Host.Outcome State Fault Refusal := .next (whenRunning s grant)

end Sys2Proof.Machine
end

