-- ==== Sys2Proof/Machine/Dispatch.lean ====
section
/-! DEFINITION. One arm for each row of the opcode table. -/
namespace Sys2Proof.Machine
open Sys2Proof

def exec (i : Instr) (s : State) : Host.Outcome State Fault Refusal :=
  match i with
  | .powerOnReset => Sys2Proof.Machine.execPowerOnReset s
  | .lineReset lowMicros => Sys2Proof.Machine.execLineReset lowMicros s
  | .endOfStartUp straps => Sys2Proof.Machine.execEndOfStartUp straps s
  | .dropArrival k f => Sys2Proof.Machine.execDropArrival k f s
  | .trunkArrival f => Sys2Proof.Machine.execTrunkArrival f s
  | .dropTransmissionCompletion k => Sys2Proof.Machine.execDropTransmissionCompletion k s
  | .trunkTransmissionCompletion => Sys2Proof.Machine.execTrunkTransmissionCompletion s
  | .dropTransmitterStart k => Sys2Proof.Machine.execDropTransmitterStart k s
  | .grantDecision => Sys2Proof.Machine.execGrantDecision s
  | .millisecondTick pres => Sys2Proof.Machine.execMillisecondTick pres s
  | .presenceChangeAccepted k => Sys2Proof.Machine.execPresenceChangeAccepted k s
  | .rateCreditFull k => Sys2Proof.Machine.execRateCreditFull k s
  | .silenceLimitReached k => Sys2Proof.Machine.execSilenceLimitReached k s
  | .delayTimerExpiry k m => Sys2Proof.Machine.execDelayTimerExpiry k m s
  | .recoveryTimerExpiry k m => Sys2Proof.Machine.execRecoveryTimerExpiry k m s
  | .secondBoundary => Sys2Proof.Machine.execSecondBoundary s
  | .probationLimitReached k => Sys2Proof.Machine.execProbationLimitReached k s
  | .decayTimerExpiry k => Sys2Proof.Machine.execDecayTimerExpiry k s
  | .latchHoldExpiry k => Sys2Proof.Machine.execLatchHoldExpiry k s
  | .managementLossExpiry => Sys2Proof.Machine.execManagementLossExpiry s
  | .holdoffExpiry => Sys2Proof.Machine.execHoldoffExpiry s
  | .getInfo => Sys2Proof.Machine.execGetInfo s
  | .readSettings => Sys2Proof.Machine.execReadSettings s
  | .writeSettings => Sys2Proof.Machine.execWriteSettings s
  | .readMap => Sys2Proof.Machine.execReadMap s
  | .writeMapHeader => Sys2Proof.Machine.execWriteMapHeader s
  | .writeMapEntry => Sys2Proof.Machine.execWriteMapEntry s
  | .applyMap => Sys2Proof.Machine.execApplyMap s
  | .readPolicy => Sys2Proof.Machine.execReadPolicy s
  | .writePolicy => Sys2Proof.Machine.execWritePolicy s
  | .readClass => Sys2Proof.Machine.execReadClass s
  | .writeClass => Sys2Proof.Machine.execWriteClass s
  | .readDrop => Sys2Proof.Machine.execReadDrop s
  | .hold => Sys2Proof.Machine.execHold s
  | .recoverLatch => Sys2Proof.Machine.execRecoverLatch s
  | .recoverBarred => Sys2Proof.Machine.execRecoverBarred s
  | .recoverMonitor => Sys2Proof.Machine.execRecoverMonitor s
  | .injectErr => Sys2Proof.Machine.execInjectErr s
  | .injectHeartbeat => Sys2Proof.Machine.execInjectHeartbeat s
  | .readEvents => Sys2Proof.Machine.execReadEvents s
  | .ackAllEvents => Sys2Proof.Machine.execAckAllEvents s
  | .readCounters => Sys2Proof.Machine.execReadCounters s
  | .clearCounters => Sys2Proof.Machine.execClearCounters s
  | .reset => Sys2Proof.Machine.execReset s
  | .unknownCommand => Sys2Proof.Machine.execUnknownCommand s
  | .resetRelease supplyStable resetNHigh => Sys2Proof.Machine.execResetRelease supplyStable resetNHigh s

end Sys2Proof.Machine
end

