-- ==== Sys2Proof/Machine/Step.lean ====
section
/-! DEFINITION. One step: the command at the front of the queue, or the due steps when the queue is empty. -/
namespace Sys2Proof.Machine
open Sys2Proof

/-- Take the command at the front of `pending` and run `exec` with the queue's rest. On an empty queue take the
steps that are due (DESIGN CHOICE, log 4); where none is, the state stays as it is. -/
def step (s : State) : Host.Outcome State Fault Refusal :=
  match s.pending with
  | [] => .next (catchUp s)
  | c :: rest => exec c { s with pending := rest }

/-- Put the command that the word spells at the front of the queue; no row gives bits (log 16). -/
def State.withFetchWord (s : State) (nbits w : Nat) : State :=
  match decodeTableWord nbits w with
  | some c => { s with pending := c :: s.pending }
  | none => s

end Sys2Proof.Machine
end

