-- ==== Sys2Proof/Safety.lean ====
section
/-! DEFINITION. The words of the statements: what is due, what an update leaves alone, what a taking finds and
answers, and the laws of the spec that every step keeps. -/
namespace Sys2Proof.Safety
open Sys2Proof Sys2Proof.Machine

/-! ### What is due (log 1) -/

/-- No probation limit is reached, no idle drop transmitter has a frame, and the trunk transmitter is busy or
has nothing that qualifies (R5, R54, R111). -/
def LinksQuiet (s : State) : Prop :=
  (∀ k, s.limitDue k = false) ∧
  (∀ k, (s.drop k).tx = none → (s.drop k).downQueue = []) ∧
  (s.trunkTx = none → s.responseQueue = [] ∧ (s.noticePending = false ∨ s.holdoff ≠ none) ∧
    ∀ k, (s.drop k).upQueue = [])

/-- Nothing is left that must come before an event from outside: also no command that the engine may take, and
no condition that a tick changed (R75, R77, R130). -/
def Quiet (s : State) : Prop :=
  LinksQuiet s ∧ (s.commandQueue = [] ∨ s.engine = .resetPending ∨ 2 ≤ s.responseQueue.length) ∧
    ∀ k, s.rateFullDue k = false ∧ s.silenceDue k = false

/-- The four rows of resets driven from outside (R16). -/
def isResetRow : Instr → Bool
  | .powerOnReset | .lineReset _ | .endOfStartUp _ | .resetRelease _ _ => true
  | _ => false

/-! ### Frames of statements -/

/-- `t` differs from `s` in its drops and notice-pending alone. -/
def OnlyDrops (s t : State) : Prop := t = { s with drops := t.drops, noticePending := t.noticePending }

/-- `t` differs from `s` in drop `k` and notice-pending alone. -/
def OnlyDrop (k : DropNo) (s t : State) : Prop := OnlyDrops s t ∧ ∀ j, j ≠ k → t.drop j = s.drop j

/-- `d'` differs from `d` in its flags and live counters alone. -/
def OnlyFlagsAndCounts (d d' : DropState) : Prop := d' = { d with flags := d'.flags, live := d'.live }

/-- The upstream gate of drop `k` was open in `s` and is closed in `t`. -/
def upCloses (s t : State) (k : DropNo) : Bool := s.upGate k && !t.upGate k

/-- The downstream gate of drop `k` was open in `s` and is closed in `t`. -/
def downCloses (s t : State) (k : DropNo) : Bool := s.downGate k && !t.downGate k

/-- R51: the queues of drop `k` in `t` are those of `s`, but emptied where the gate closed between them. -/
def QueuesPurged (k : DropNo) (s t : State) : Prop :=
  (t.drop k).upQueue = (if upCloses s t k then [] else (s.drop k).upQueue) ∧
    (t.drop k).downQueue = if downCloses s t k then [] else (s.drop k).downQueue

/-- R51: drop `k` in `t` is as in `u`, but for the purges where a gate closed between `s` and `t`: each removed frame
counted once, and WRAP where a counter wrapped. -/
def PurgedFrom (k : DropNo) (s u t : State) : Prop :=
  let d := u.drop k
  let d' := t.drop k
  d' = { d with
    upQueue := if upCloses s t k then [] else d.upQueue
    downQueue := if downCloses s t k then [] else d.downQueue
    flags := d'.flags, live := d'.live } ∧
  d'.count .gatedUp = d.count .gatedUp + BitVec.ofNat 16 (if upCloses s t k then d.upQueue.length else 0) ∧
  d'.count .gatedDown = d.count .gatedDown + BitVec.ofNat 16 (if downCloses s t k then d.downQueue.length else 0) ∧
  (∀ c, c ≠ .gatedUp → c ≠ .gatedDown → d'.count c = d.count c) ∧ ∀ f, f ≠ .wrap → d'.flag f = d.flag f

/-- Per-drop state that no frame and no heartbeat touches (R39, section 3.2). -/
def PortKept (d d' : DropState) : Prop :=
  d'.elapsed = d.elapsed ∧ d'.upHold = d.upHold ∧ d'.downHold = d.downHold ∧ d'.tx = d.tx ∧
    d'.level = d.level ∧ d'.candidate = d.candidate ∧ d'.snap = d.snap

/-- Per-drop state that only a trip moves within the work of one frame (R70, R113 to R116). -/
def ProtectionKept (d d' : DropState) : Prop :=
  d'.admission = d.admission ∧ d'.repeatCount = d.repeatCount ∧ d'.decay = d.decay ∧
    d'.latchTimer = d.latchTimer ∧ d'.absenceSeen = d.absenceSeen ∧ d'.runCount = d.runCount

/-- R2, R3: the line frame arrives at the part in `s`: it has an octet, no reset came between its start and its last
octet, and it ended since the last reset, or (R146) was whole when a COMMAND reset took place that its arrival falls
together with. -/
abbrev Arrives (f : LineFrame) (s : State) : Prop :=
  f.octets ≠ [] ∧ f.begun = f.ended ∧ (f.ended = s.resets ∨ (s.lastCause = .command ∧ f.ended + 1 = s.resets))

/-- R3, R16: reception ended at every receiver between `s` and `t`: a frame not whole in `s` is none in `t`. -/
def ReceptionEnded (s t : State) : Prop := t.resets = s.resets + 1

/-- R4, R13, R15, R17, R38, R58, R81, R92, R94, R107, R147, R155, R156, R171: what every block holds after any reset.
The credit is full at the depth of the policy in force. -/
def BlocksAtReset (t : State) : Prop :=
  t.timebase = 0 ∧ t.boundaryDue = false ∧ t.sampled = false ∧ t.commandQueue = [] ∧
  t.responseQueue = [] ∧ t.engine = .ready ∧ t.fallback = none ∧ t.noticePending = false ∧
  t.holdoff = none ∧ t.pointer = 15 ∧ t.trunkTx = none ∧ (∀ f, t.deviceFlag f = false) ∧
  (∀ c, t.deviceCount c = 0 ∧ t.snapDevice[DeviceCounter.idx c] = 0) ∧
  ∀ k, (∀ m, (t.drop k).mon m = { state := .clear, condition := false, timer := none }) ∧
    (t.drop k).errWindow = [] ∧ (t.drop k).credit = (t.policyOf k).depth ∧ (t.drop k).silence = 0 ∧
    (t.drop k).history = [] ∧ (t.drop k).accepted = none ∧ (t.drop k).repeatCount = 0 ∧
    (t.drop k).decay = none ∧ (t.drop k).latchTimer = none ∧ (t.drop k).absenceSeen = false ∧
    (t.drop k).runCount = 0 ∧ (t.drop k).elapsed = 0 ∧ (t.drop k).upHold = false ∧
    (t.drop k).downHold = false ∧ (t.drop k).injection = 0 ∧ (t.drop k).lastFaulty = none ∧
    (t.drop k).upQueue = [] ∧ (t.drop k).downQueue = [] ∧ (t.drop k).tx = none ∧
    (t.drop k).candidate = none ∧ (∀ f, (t.drop k).flag f = false) ∧
    (∀ c, (t.drop k).count c = 0 ∧ (t.drop k).snap[DropCounter.idx c] = 0)

/-- R38: every drop queue is empty, every transmitter IDLE, nothing counted and no flag raised. -/
def QueuesLost (t : State) : Prop :=
  t.trunkTx = none ∧ (∀ c, t.deviceCount c = 0) ∧ (∀ f, t.deviceFlag f = false) ∧
  ∀ k, (t.drop k).upQueue = [] ∧ (t.drop k).downQueue = [] ∧ (t.drop k).tx = none ∧
    (∀ c, (t.drop k).count c = 0) ∧ ∀ f, (t.drop k).flag f = false

/-- R58: the arbiter's state after a reset. The search for an upstream grant would begin at drop 0, and a grant
decision finds nothing, so the first grant waits for a later event. -/
def ArbiterAtReset (t : State) : Prop :=
  t.pointer = 15 ∧ searchOrder t.pointer = [0, 1, 2, 3, 4, 5, 6, 7, 8, 9, 10, 11, 12, 13, 14, 15] ∧
  t.trunkTx = none ∧ (∀ k, (t.drop k).upQueue = []) ∧ t.responseQueue = [] ∧ t.noticePending = false ∧
  t.holdoff = none ∧ grant t = t

/-- The values of the Drop Map's reset (R23) with strap value `straps`. -/
def MapAtReset (straps : BitVec 4) (m : DropMap) : Prop :=
  m.header.planeBase = 0x0001 ∧ m.header.own = 0xFFE0 + straps.setWidth 16 ∧ m.header.controller = 0x0000 ∧
    ∀ k : DropNo, m.entries[k].sizeCode = 0 ∧ m.entries[k].policy = 0

/-- The command queue with a valid command at its tail, or the command lost for room (R128). -/
def queued (f : LineFrame) (s : State) : State :=
  if s.commandQueue.length < 4 then
    { s with commandQueue := s.commandQueue ++ [{ src := frameSrc f.octets, payload := framePayload f.octets }] }
  else raiseDevice .mgmtOverrun (countDevice .commandsLost s)

/-! ### Transitions of the admission state (R104) -/

/-- The state that the one event of a row finds, after what must come before it (log 1, 3). -/
def foundBy (c : Instr) (s : State) : State :=
  match c with
  | .powerOnReset | .lineReset _ | .resetRelease _ _ | .endOfStartUp _ => s
  | .dropTransmitterStart _ | .grantDecision | .probationLimitReached _ => s
  | .dropArrival _ _ | .trunkArrival _ | .dropTransmissionCompletion _ | .trunkTransmissionCompletion
  | .managementLossExpiry => ready s
  | .millisecondTick _ => catchUp s
  | .presenceChangeAccepted _ | .rateCreditFull _ | .silenceLimitReached _ | .delayTimerExpiry _ _
  | .recoveryTimerExpiry _ _ | .secondBoundary | .decayTimerExpiry _ | .latchHoldExpiry _
  | .holdoffExpiry => settle s
  | _ => settleLinks s

/-- A COMMAND reset: the completion of the response to RESET (R145). -/
def commandReset (c : Instr) (s : State) : Bool :=
  c == .trunkTransmissionCompletion && s.trunkTx.any fun x => x.source == .response true

/-- The rows that take a heartbeat of drop `k`, and so may judge its run (R99, R101). -/
def takesHeartbeat (k : DropNo) : Instr → Bool
  | .dropArrival j _ => j == k
  | .injectHeartbeat => true
  | _ => false

/-- The rows that may carry out policy changes (R63, R152, R153). -/
def changesPolicies : Instr → Bool
  | .writePolicy | .writeSettings | .applyMap | .managementLossExpiry | .trunkArrival _ => true
  | _ => false

/-- The other rows that may trip a monitor of drop `k` (R66, R67). -/
def tripsMonitor (k : DropNo) : Instr → Bool
  | .silenceLimitReached j => j == k
  | .delayTimerExpiry j _ => j == k
  | _ => false

/-! ### The monitor machine as the table of section 4.3 -/

/-- The record of a running monitor after its condition becomes false (R67, R68). -/
def afterFalse (p : MonitorPolicy) (x : MonitorRec) : MonitorRec :=
  match x.state with
  | .alert => { state := .clear, condition := false, timer := none }
  | .tripped =>
    if p.auto then
      if p.recovery = 0 then { state := .clear, condition := false, timer := none }
      else { state := .recovering, condition := false, timer := some (.left p.recovery) }
    else { x with condition := false }
  | .clear => { x with condition := false }
  | .recovering => { x with condition := false }

/-- The CLEARED flag comes with that move (R68). -/
def clearedByFalse (p : MonitorPolicy) (x : MonitorRec) : Bool :=
  x.state == .tripped && p.auto && p.recovery == 0

/-- The record of a running monitor after its condition becomes true (R66, R69). -/
def afterTrue (p : MonitorPolicy) (x : MonitorRec) : MonitorRec :=
  match x.state with
  | .clear =>
    if p.tripDelay = 0 then { state := .tripped, condition := true, timer := none }
    else { state := .alert, condition := true, timer := some (.left p.tripDelay) }
  | .recovering => { state := .tripped, condition := true, timer := none }
  | .alert => { x with condition := true }
  | .tripped => { x with condition := true }

/-- The ALERT flag comes with that move (R66). -/
def alertedByTrue (p : MonitorPolicy) (x : MonitorRec) : Bool := x.state == .clear && p.tripDelay != 0

/-- That move is a trip (R66). The return from RECOVERING to TRIPPED is none (R69). -/
def trippedByTrue (p : MonitorPolicy) (x : MonitorRec) : Bool := x.state == .clear && p.tripDelay == 0

/-- The record of a monitor given the condition `v`: only a change is an event (R65), and only a running monitor
moves (R64). -/
def afterChange (p : MonitorPolicy) (running : Bool) (x : MonitorRec) (v : Bool) : MonitorRec :=
  if x.condition = v then x
  else if running = false then { x with condition := v }
  else if v then afterTrue p x else afterFalse p x

/-- The trips that a condition of `v` brings to a monitor. -/
def tripsBy (p : MonitorPolicy) (running : Bool) (x : MonitorRec) (v : Bool) : Nat :=
  if running && !x.condition && v && trippedByTrue p x then 1 else 0

/-- From `d` to `d'`, monitor `m` was given the condition `v`: its record, and its three flags. -/
def MonitorMoved (m : Monitor) (p : Policy) (running : Bool) (d d' : DropState) (v : Bool) : Prop :=
  let x := d.mon m
  let moves := running && x.condition != v
  d'.mon m = afterChange (p.mon m) running x v ∧
    d'.flag (.alert m) = (d.flag (.alert m) || moves && v && alertedByTrue (p.mon m) x) ∧
    d'.flag (.trip m) = (d.flag (.trip m) || moves && v && trippedByTrue (p.mon m) x) ∧
    d'.flag (.cleared m) = (d.flag (.cleared m) || moves && !v && clearedByFalse (p.mon m) x)

/-! ### What trips do to the admission part of a drop (R70, R113 to R116) -/

/-- One trip of monitor `m` under policy `p`: the run count of a drop in PROBATION falls to 0; with latch yes the repeat
counter advances, the decay timer starts, and a drop in PROBATION or ADMITTED whose counter has reached a latch limit
above 0 is latched. -/
def afterTrip (p : Policy) (m : Monitor) (d : DropState) : DropState :=
  let d := { d with runCount := if d.admission = .probation then 0 else d.runCount }
  if (p.mon m).latch then
    let d := { d with repeatCount := min 15 (d.repeatCount + 1), decay := some (.left p.decayInterval) }
    if (d.admission = .probation ∨ d.admission = .admitted) ∧ 0 < p.latchLimit ∧ p.latchLimit ≤ d.repeatCount then
      { d with admission := .latched, absenceSeen := decide (d.level = .absent)
               latchTimer := if p.latchHold = 0 then none else some (.left p.latchHold) }
    else d
  else d

/-- The trips of these monitors, one after another. -/
def afterTrips (p : Policy) (l : List Monitor) (d : DropState) : DropState := l.foldl (fun d m => afterTrip p m d) d

/-- Monitor `m`, once for each trip that a condition of `v` brings to it. -/
def trippedBy (m : Monitor) (p : Policy) (running : Bool) (d : DropState) (v : Bool) : List Monitor :=
  List.replicate (tripsBy (p.mon m) running (d.mon m) v) m

/-- R70, R116: the trips `l` between `d` and `d'` are counted, and the one that latched the drop raised LATCH. -/
def TripsCounted (p : Policy) (l : List Monitor) (d d' : DropState) : Prop :=
  d'.count .trips = d.count .trips + BitVec.ofNat 16 l.length ∧
    d'.flag .latch = (d.flag .latch || decide ((afterTrips p l d).admission ≠ d.admission))

/-- R113 to R118: the repeat counter with its timer, the latch hold timer and absence-seen of `d'` are those of `e`. -/
def RepeatKept (e d' : DropState) : Prop :=
  d'.repeatCount = e.repeatCount ∧ d'.decay = e.decay ∧ d'.latchTimer = e.latchTimer ∧
    d'.absenceSeen = e.absenceSeen

/-- R99, R110: a heartbeat found `good` or not is judged of a drop that its trips left as `e`: in PROBATION the run goes
on, or admits the drop, or falls to 0; in any other state it is not judged. -/
def RunJudged (p : Policy) (e d' : DropState) (good : Bool) : Prop :=
  let run := if good then e.runCount + 1 else 0
  (e.admission = .probation →
    d'.runCount = run ∧ d'.admission = if good = true ∧ p.goodRun ≤ run then .admitted else .probation) ∧
  (e.admission ≠ .probation → d'.runCount = e.runCount ∧ d'.admission = e.admission) ∧
  d'.flag .admitted = (e.flag .admitted || decide (e.admission ≠ d'.admission))

/-- R66, R84, R85: whether monitor `m` trips at a policy change that leaves it the condition `c`: at step 2 by a condition
that becomes true, at step 3 from ALERT, or at step 4 when it is enabled, each without a trip delay. -/
def tripsAtChange (old new : Policy) (d : DropState) (m : Monitor) (c : Bool) : Bool :=
  let p := new.mon m
  let x := d.mon m
  let z := afterChange p true x c
  p.enable && p.tripDelay == 0 &&
    if (old.mon m).enable then z.state == .alert || (x.state == .clear && z.state == .tripped) else c

/-- The ERR condition by R73: `f` faulty marks, the levels of `p`, the value held before. -/
def errJudged (p : Policy) (f : Nat) (before : Bool) : Bool :=
  if p.tripCount ≤ f then true else if f ≤ p.releaseCount then false else before

/-! ### The numbers and the octet places of section 7.5 -/

/-- The codes of the one-octet fields, of the statuses and of the BAD_MAP reasons, the numbers of the monitors and event
kinds, and the order of the counters. -/
def FieldCodes : Prop :=
  [Admission.vacant, .probation, .admitted, .latched, .barred].map Admission.code = [0, 1, 2, 3, 4] ∧
  [MonitorState.clear, .alert, .tripped, .recovering].map MonitorState.code = [0, 1, 2, 3] ∧
  [StatusClass.ok, .degraded, .fault].map StatusClass.code = [1, 2, 3] ∧
  [FaultyReason.runt, .check, .length, .kind, .source, .injected].map FaultyReason.code = [1, 2, 3, 4, 5, 6] ∧
  [ResetCause.powerOn, .line, .command].map ResetCause.code = [1, 2, 3] ∧
  [Action.none, .up, .down, .both].map Action.code = [0, 1, 2, 3] ∧
  [FallbackOption.report, .isolate, .policy].map FallbackOption.code = [0, 1, 2] ∧
  [Status.ok, .unknownCommand, .badLength, .badIndex, .badValue, .badMap, .notApplicable].map Status.code =
    [0, 1, 2, 3, 4, 5, 6] ∧
  [MapReason.planeEnd, .ownReserved, .ownInRange, .ctrlInvalid].map MapReason.code = [1, 2, 3, 4] ∧
  [Monitor.err, .rate, .sil, .stat].map Monitor.idx = [0, 1, 2, 3] ∧
  (∀ m, DropFlag.kind (.alert m) = 0 ∧ DropFlag.kind (.trip m) = 1 ∧ DropFlag.kind (.cleared m) = 2) ∧
  [DropFlag.latch, .release, .admitted, .barred, .status, .presence, .wrap, .overflow].map DropFlag.kind =
    [3, 4, 5, 6, 7, 8, 9, 10] ∧
  [DeviceFlag.fallbackEnter, .fallbackExit, .mapApplied, .mgmtOverrun, .deviceWrap].map DeviceFlag.kind =
    [11, 12, 13, 14, 15] ∧
  [DropCounter.upForwarded, .downForwarded, .heartbeats, .faulty, .overrun, .gatedUp, .gatedDown, .overflowUp,
    .overflowDown, .trips].map DropCounter.idx = [0, 1, 2, 3, 4, 5, 6, 7, 8, 9] ∧
  [DeviceCounter.trunkFaulty, .unrouted, .misaddressed, .commands, .commandErrors, .commandsLost].map
    DeviceCounter.idx = [0, 1, 2, 3, 4, 5]

/-- The octet of a yes/no field: 00h no, 01h yes. -/
def yes (b : Bool) : Byte := if b then 1 else 0

/-- The octet of `l` at place `i` as a number, and the two octets from place `i`, high octet first. -/
def byteAt (l : List Byte) (i : Nat) : Nat := (octetAt l i).toNat
def pairAt (l : List Byte) (i : Nat) : Nat := 256 * byteAt l i + byteAt l (i + 1)

/-- A monitor group stands in a policy record: its enable at octet `e`, and from octet `t` on its trip delay, recovery
time, action, auto and latch. -/
def GroupAt (l : List Byte) (e t : Nat) (p : MonitorPolicy) : Prop :=
  octetAt l e = yes p.enable ∧ pairAt l t = p.tripDelay ∧ pairAt l (t + 2) = p.recovery ∧
    octetAt l (t + 4) = p.action.code ∧ octetAt l (t + 5) = yes p.auto ∧ octetAt l (t + 6) = yes p.latch

/-- The 52 octets of a policy record. -/
def PolicyAt (l : List Byte) (p : Policy) : Prop :=
  l.length = 52 ∧ GroupAt l 0 4 p.err ∧ byteAt l 1 = p.window ∧ byteAt l 2 = p.tripCount ∧
  byteAt l 3 = p.releaseCount ∧ GroupAt l 11 16 p.rate ∧ pairAt l 12 = p.depth ∧ pairAt l 14 = p.refill ∧
  GroupAt l 23 26 p.sil ∧ pairAt l 24 = p.silenceLimit ∧ GroupAt l 33 36 p.stat ∧ byteAt l 34 = p.persistence ∧
  byteAt l 35 = p.acceptance ∧ byteAt l 43 = p.latchLimit ∧ pairAt l 44 = p.decayInterval ∧
  pairAt l 46 = p.latchHold ∧ octetAt l 48 = yes p.replacementRelease ∧ byteAt l 49 = p.goodRun ∧
  pairAt l 50 = p.probationLimit

/-- The 11 octets of a Settings Record. -/
def SettingsAt (l : List Byte) (c : Settings) : Prop :=
  l.length = 11 ∧ pairAt l 0 = c.timeout ∧ octetAt l 2 = c.fallbackOption.code ∧ byteAt l 3 = c.fallbackPolicy.val ∧
  byteAt l 4 = c.debounce ∧ octetAt l 5 = yes c.snapshot ∧ pairAt l 6 = c.noticeMask.toNat ∧
  octetAt l 8 = yes c.suspend ∧ pairAt l 9 = c.holdoff

/-! ### Takings of commands (R130 to R132) -/

/-- The rows that are takings, with the kind of command each takes. -/
def takingRows : List (Instr × CommandRow) :=
  [(.getInfo, .getInfo), (.readSettings, .readSettings), (.writeSettings, .writeSettings),
   (.readMap, .readMap), (.writeMapHeader, .writeMapHeader), (.writeMapEntry, .writeMapEntry),
   (.applyMap, .applyMap), (.readPolicy, .readPolicy), (.writePolicy, .writePolicy),
   (.readClass, .readClass), (.writeClass, .writeClass), (.readDrop, .readDrop), (.hold, .hold),
   (.recoverLatch, .recoverLatch), (.recoverBarred, .recoverBarred), (.recoverMonitor, .recoverMonitor),
   (.injectErr, .injectErr), (.injectHeartbeat, .injectHeartbeat), (.readEvents, .readEvents),
   (.ackAllEvents, .ackAllEvents), (.readCounters, .readCounters), (.clearCounters, .clearCounters),
   (.reset, .reset), (.unknownCommand, .unknown)]

/-- The number of parameter octets of section 7.5. -/
def paramCount : CommandRow → Nat
  | .getInfo | .readSettings | .applyMap | .ackAllEvents | .clearCounters | .reset | .unknown => 0
  | .writeSettings => 11
  | .readMap => 2
  | .writeMapHeader => 6
  | .writeMapEntry => 3
  | .readPolicy | .readClass | .readDrop | .readEvents => 1
  | .writePolicy => 53
  | .writeClass => 5
  | .hold | .recoverLatch | .recoverBarred | .recoverMonitor | .injectErr | .injectHeartbeat => 3
  | .readCounters => 2

/-- The running part may take command `c`, a command of row `row`, from the head of its command queue, and
`rest` stays queued. What is due on the links comes first (log 1). -/
def Takeable (row : CommandRow) (s : State) (c : Command) (rest : List Command) : Prop :=
  s.phase = .running ∧ (settleLinks s).commandQueue = c :: rest ∧ (settleLinks s).engine = .ready ∧
    (settleLinks s).responseQueue.length < 2 ∧ rowOf c.payload = row

/-- The state the taking finds, its command off the queue. -/
def found (s : State) (rest : List Command) : State := { settleLinks s with commandQueue := rest }

/-- The same with the taking counted COMMANDS (R132, R143). -/
def counted (s : State) (rest : List Command) : State := countDevice .commands (found s rest)

/-- R132, section 7.5: the response to `c` with a status and results, sent from address `own`. -/
def responseTo (own : Addr) (c : Command) (st : Status) (results : List Byte) : List Byte :=
  buildFrame c.src own 0x11 (octetAt c.payload 0 :: octetAt c.payload 1 :: st.code :: results)

/-- The state `u` that a command's effects leave, with its response at the tail of the response queue. -/
def answer (own : Addr) (c : Command) (st : Status) (results : List Byte) (u : State) : State :=
  { u with responseQueue := u.responseQueue ++ [{ octets := responseTo own c st results, isReset := false }] }

/-- The own address that the response to a taking from `s` carries (R132). -/
def ownOf (s : State) : Addr := (settleLinks s).active.header.own

/-- The taking of `c` by row `i` is refused with this status: it changes nothing but its counts (R131, R132). -/
def RefusedWith (st : Status) (i : Instr) (s : State) (c : Command) (rest : List Command) : Prop :=
  exec i s = .next (answer (ownOf s) c st [] (countDevice .commandErrors (counted s rest)))

/-- A command of this row with the right number of octets, of which a field is `bad`, is refused with this status
(R131, check 4). -/
def FailsWith (st : Status) (i : Instr) (row : CommandRow) (s : State) (c : Command) (rest : List Command)
    (bad : Prop) : Prop :=
  Takeable row s c rest → c.payload.length = 2 + paramCount row → bad → RefusedWith st i s c rest

/-- R135, R136: a field of the 11 octets of a Settings Record lies outside its range or set. -/
def BadSettings (l : List Byte) : Prop :=
  3600 < (wordAt l 0).toNat ∨ 2 < (octetAt l 2).toNat ∨ 7 < (octetAt l 3).toNat ∨ octetAt l 4 = 0 ∨
    1 < (octetAt l 5).toNat ∨ 1 < (octetAt l 8).toNat ∨ 10000 < (wordAt l 9).toNat

/-- R60: a field of a monitor group, its enable at octet `e` and its times at octet `t`, lies outside its range. -/
def BadGroup (l : List Byte) (e t : Nat) : Prop :=
  1 < (octetAt l e).toNat ∨ 60000 < (wordAt l t).toNat ∨ 60000 < (wordAt l (t + 2)).toNat ∨
    3 < (octetAt l (t + 4)).toNat ∨ 1 < (octetAt l (t + 5)).toNat ∨ 1 < (octetAt l (t + 6)).toNat

/-- R60, section 4.1: a field of the 52 octets of a policy record lies outside its range, or a check across fields
fails. -/
def BadPolicy (l : List Byte) : Prop :=
  let byte : Nat → Nat := fun i => (octetAt l i).toNat
  let word : Nat → Nat := fun i => (wordAt l i).toNat
  BadGroup l 0 4 ∨ byte 1 < 4 ∨ 16 < byte 1 ∨ byte 2 < 1 ∨ byte 1 < byte 2 ∨ byte 2 ≤ byte 3 ∨
    BadGroup l 11 16 ∨ word 12 < 248 ∨ 16384 < word 12 ∨ word 14 < 1 ∨ 1024 < word 14 ∨
    BadGroup l 23 26 ∨ word 24 < 10 ∨ 60000 < word 24 ∨
    BadGroup l 33 36 ∨ byte 34 < 3 ∨ 10 < byte 34 ∨ byte 35 < byte 34 / 2 + 1 ∨ byte 34 < byte 35 ∨
    15 < byte 43 ∨ word 44 < 1 ∨ 3600 < word 44 ∨ 3600 < word 46 ∨ 1 < byte 48 ∨ byte 49 < 1 ∨ 3600 < word 50

/-! ### Policy changes of FALLBACK (R152, R153) -/

/-- R152, R153: each drop from `r` to `t`, at an event that brings the device state of `u`: a drop whose map index is the
fallback index `fb` is unchanged, any other drop goes through the policy change from its record `old`. -/
def PolicyMoves (fb : Fin 8) (old : DropNo → Policy) (r u t : State) : Prop :=
  ∀ k, (r.active.entries[k].policy = fb →
      (changePolicies fb old u).drop k = r.drop k ∧ t.drop k = r.drop k) ∧
    (r.active.entries[k].policy ≠ fb → PurgedFrom k r (policyChange k (old k) u) t)

/-! ### The change-over of a map (R28 to R35) -/

/-- R29 to R33: the cases of section 2.6 for drop `k`. `r` is the state before the apply, `u` the state with the new
map in force before any drop is changed over, `t` the state after. -/
def DropApplied (k : DropNo) (r u t : State) : Prop :=
  let old := r.active
  let d := r.drop k
  let d' := t.drop k
  let sameRange := old.size k = t.active.size k ∧ old.base k = t.active.base k
  let sameIndex := old.entries[k].policy = t.active.entries[k].policy
  let emptied : Admission → Prop := fun a =>
    d'.admission = a ∧ d'.upQueue = [] ∧ d'.downQueue = [] ∧
    d'.count .gatedUp = d.count .gatedUp + BitVec.ofNat 16 d.upQueue.length ∧
    d'.count .gatedDown = d.count .gatedDown + BitVec.ofNat 16 d.downQueue.length ∧
    (∀ c, c ≠ .gatedUp → c ≠ .gatedDown → d'.count c = d.count c) ∧ (∀ f, f ≠ .wrap → d'.flag f = d.flag f) ∧
    d' = { d.clearContext (t.policyOf k).depth with
      admission := a, upQueue := [], downQueue := [], flags := d'.flags, live := d'.live }
  (t.active.size k = 0 → old.size k ≠ 0 → emptied .vacant) ∧
  (t.active.size k ≠ 0 → ¬ sameRange → emptied .probation) ∧
  (t.active.size k = 0 → old.size k = 0 → sameIndex → d' = d) ∧
  (t.active.size k ≠ 0 → sameRange → sameIndex → d' = d) ∧
  (t.active.size k = 0 → old.size k = 0 → ¬ sameIndex → d.admission = .vacant →
    d' = if r.fallback = some .policy then d else { d with credit := (t.policyOf k).depth }) ∧
  (t.active.size k ≠ 0 → sameRange → ¬ sameIndex →
    (r.fallback = some .policy → d' = d) ∧
    (r.fallback ≠ some .policy → PurgedFrom k r (policyChange k r.policies[old.entries[k].policy] u) t))

/-- R35: the rows for notice-pending, with the MAP_APPLIED flag that the apply raises in `u`. -/
def NoticeAfterApply (r u t : State) : Prop :=
  (t.active.header.controller = 0 → t.noticePending = false) ∧
  (r.active.header.controller = 0 → t.active.header.controller ≠ 0 →
    t.noticePending = (r.noticePending || (!r.settings.suspend && t.listsSomething))) ∧
  (r.active.header.controller ≠ 0 → t.active.header.controller ≠ 0 →
    (r.noticePending = true → t.noticePending = true) ∧
    (r.settings.suspend = true → t.noticePending = r.noticePending) ∧
    (u.deviceFlag .mapApplied = false → t.notifies 13 = true → t.noticePending = true))

/-! ### The fields of WRITE_SETTINGS (R136) -/

/-- R149: the write ends FALLBACK. -/
def endsFallback (new : Settings) (r : State) : Bool :=
  r.fallback.isSome && new.timeout == 0 && r.settings.timeout != 0

/-- R149, R152: what the write does to drop `k` besides its candidate. `r` is the state before, `u` the state with the
new record before any block acts on it, `t` the state after. -/
def PolicyAfterSettings (k : DropNo) (r u t : State) : Prop :=
  let old := r.settings
  let kept : Prop := t.drop k = { r.drop k with candidate := (t.drop k).candidate }
  let changed : State → Prop := fun v =>
    PurgedFrom k r ((policyChange k r.policies[old.fallbackPolicy] v).modDrop k fun d =>
      { d with candidate := (t.drop k).candidate }) t
  (r.fallback ≠ some .policy → kept) ∧
  (r.fallback = some .policy → endsFallback u.settings r = false →
    t.policyIndex k = u.settings.fallbackPolicy ∧
    (u.settings.fallbackPolicy = old.fallbackPolicy → kept) ∧
    (u.settings.fallbackPolicy ≠ old.fallbackPolicy → changed u)) ∧
  (r.fallback = some .policy → endsFallback u.settings r = true →
    t.policyIndex k = r.active.entries[k].policy ∧
    (r.active.entries[k].policy = old.fallbackPolicy → kept) ∧
    (r.active.entries[k].policy ≠ old.fallbackPolicy → changed { u with fallback := none }))

/-- R160: the rows for notice-pending, on the values after the write. -/
def NoticeAfterSettings (r u t : State) : Prop :=
  let old := r.settings
  let new := u.settings
  let addressed := decide (r.active.header.controller ≠ 0)
  (new.suspend = true → t.noticePending = if old.suspend then r.noticePending else false) ∧
  (new.suspend = false → old.suspend = true →
    t.noticePending = (r.noticePending || (addressed && t.listsSomething))) ∧
  (new.suspend = false → old.suspend = false →
    (r.noticePending = true → t.noticePending = true) ∧
    (∀ (k : DropNo) (f : DropFlag), (r.drop k).flag f = true → old.noticeMask.getLsbD f.kind = true →
      new.noticeMask.getLsbD f.kind = false → addressed = true → t.noticePending = true) ∧
    (∀ f : DeviceFlag, r.deviceFlag f = true → old.noticeMask.getLsbD f.kind = true →
      new.noticeMask.getLsbD f.kind = false → addressed = true → t.noticePending = true) ∧
    (new.noticeMask ||| old.noticeMask = new.noticeMask → endsFallback new r = false →
      r.fallback ≠ some .policy ∨ new.fallbackPolicy = old.fallbackPolicy → t.noticePending = u.noticePending))

/-! ### The laws of the spec -/

/-- R37, R51, R132: no drop queue holds more than four frames, the command queue no more than four, and the
response queue no more than two. -/
def QueuesBounded (s : State) : Prop :=
  (∀ k, (s.drop k).upQueue.length ≤ 4 ∧ (s.drop k).downQueue.length ≤ 4) ∧
    s.commandQueue.length ≤ 4 ∧ s.responseQueue.length ≤ 2

/-- R51: a drop queue whose gate is closed holds no waiting frame. -/
def ClosedGatesEmpty (s : State) : Prop :=
  ∀ k, (s.upGate k = false → (s.drop k).upQueue = []) ∧ (s.downGate k = false → (s.drop k).downQueue = [])

/-- Sections 2.1, R20, R24: the fields of one copy of the map lie in their ranges. -/
def MapInRange (m : DropMap) : Prop :=
  m.header.planeBase ≠ 0x0000 ∧ m.header.planeBase ≠ 0xFFFF ∧
    ∀ k : DropNo, m.entries[k].sizeCode = 0 ∨ (2 ≤ m.entries[k].sizeCode ∧ m.entries[k].sizeCode ≤ 12)

/-- R28: the ranges of the map never overlap, all lie within 0001h..FFFEh, and none contains the own address;
the own address is neither 0000h nor FFFFh (section 2.1). -/
def PlaneLaw (m : DropMap) : Prop :=
  (∀ j k a, m.inRange j a = true → m.inRange k a = true → j = k) ∧
    (∀ k a, m.inRange k a = true → 0x0001 ≤ a.toNat ∧ a.toNat ≤ 0xFFFE) ∧
    (∀ k, m.inRange k m.header.own = false) ∧ m.header.own ≠ 0x0000 ∧ m.header.own ≠ 0xFFFF

/-- Both copies in range, and the law of the address plane for the active one (R20, R28). -/
def MapsLaw (s : State) : Prop := MapInRange s.staging ∧ MapInRange s.active ∧ PlaneLaw s.active

/-- R76, R106, R108, R113, R172: the per-drop counts lie in their ranges. -/
def CountsInRange (s : State) : Prop :=
  ∀ k, (s.drop k).repeatCount ≤ 15 ∧ (s.drop k).injection ≤ 16 ∧ (s.drop k).silence ≤ 60000 ∧
    (s.drop k).elapsed ≤ 3600

/-- R36: the drops of nonzero active size are exactly those that are not VACANT. -/
def VacantExactly (s : State) : Prop := ∀ k, s.active.size k = 0 ↔ (s.drop k).admission = .vacant

/-- A timer that runs has from 1 to `limit` ticks or boundaries left (section 4.3, R114, R120, R148, R164). -/
def LeftIn (limit : Nat) (t : Timer) : Prop := ∀ n, t = some (.left n) → 1 ≤ n ∧ n ≤ limit

/-- R60, R135: the policy records and the Settings Record lie in their ranges, and so does every timer. -/
def RecordsAndTimersInRange (s : State) : Prop :=
  (∀ n : Fin 8, s.policies[n].inRange = true) ∧ s.settings.inRange = true ∧
    LeftIn 3600 s.lossTimer ∧ LeftIn 10000 s.holdoff ∧
    ∀ k, (∀ m, LeftIn 60000 ((s.drop k).mon m).timer) ∧ LeftIn 3600 (s.drop k).decay ∧
      LeftIn 3600 (s.drop k).latchTimer

/-- Section 4.3 and R64, R66, R67, R69: a timer is present exactly in ALERT and RECOVERING; the condition is true
in ALERT and false in RECOVERING; a monitor that does not run is CLEAR; one that runs and is CLEAR has a false
condition. -/
def MonitorLaw (s : State) : Prop :=
  ∀ k m, let x := (s.drop k).mon m
    (x.timer.isSome = true ↔ x.state = .alert ∨ x.state = .recovering) ∧
    (x.state = .alert → x.condition = true) ∧ (x.state = .recovering → x.condition = false) ∧
    (s.runs k m = false → x.state = .clear) ∧ (s.runs k m = true → x.state = .clear → x.condition = false)

/-- R72, R74, R91: the window, the credit and the history fit the policy in force; those of a VACANT drop are
empty (R30, R106). -/
def ContextFitsPolicy (s : State) : Prop :=
  ∀ k, (s.drop k).errWindow.length ≤ (s.policyOf k).window ∧ (s.drop k).credit ≤ (s.policyOf k).depth ∧
    (s.drop k).history.length ≤ (s.policyOf k).persistence ∧
    ((s.drop k).admission = .vacant → (s.drop k).errWindow = [] ∧ (s.drop k).history = [])

/-- R148, R149: in NORMAL the loss timer runs exactly while the timeout is nonzero; in FALLBACK it is stopped and
the timeout is nonzero. -/
def LossTimerLaw (s : State) : Prop :=
  (s.fallback = none → (s.lossTimer = none ↔ s.settings.timeout = 0)) ∧
    (s.fallback ≠ none → s.lossTimer = none ∧ s.settings.timeout ≠ 0)

/-- R35, R160: without a controller address, and while notices are suspended, no notice is pending. -/
def NoticeLaw (s : State) : Prop :=
  (s.active.header.controller = 0 → s.noticePending = false) ∧
    (s.settings.suspend = true → s.noticePending = false)

/-- R144, R145: while the engine is READY no RESET response waits or is in transmission; in RESET_PENDING one
does, and no response waits behind it. -/
def ResetPendingLaw (s : State) : Prop :=
  match s.engine with
  | .ready => (∀ r ∈ s.responseQueue, r.isReset = false) ∧
      ∀ t, s.trunkTx = some t → t.source ≠ .response true
  | .resetPending =>
    ((∀ r ∈ s.responseQueue.dropLast, r.isReset = false) ∧ (s.responseQueue.getLast?.any (·.isReset)) = true) ∨
      (s.responseQueue = [] ∧ s.trunkTx.any (fun t => t.source == .response true) = true)

/-- R14, R15: a candidate aims at the level that is not held, within the presence debounce. -/
def PresenceLaw (s : State) : Prop :=
  ∀ k c, (s.drop k).candidate = some c → c.target ≠ (s.drop k).level ∧
    ∀ n, c.remaining = .left n → 1 ≤ n ∧ n ≤ s.settings.debounce

end Sys2Proof.Safety
end

