-- ==== Sys2Proof/Certificates/Slice0/Obligations.lean ====
section
/-! DEFINITION. The statements for the provers. `ready s` is the state an event from outside finds, `settle s` the
one an expiry finds, and `settleLinks s` the one a taking finds (log 1); where nothing is due each is `s` itself
(`EmptyQueueTakesWhatIsDue`). -/
open Sys2Proof Sys2Proof.Machine Sys2Proof.Safety

/-! ### Steps and the queue of waiting commands -/

/-- A step runs the command at the front of the queue on the state with the queue's rest. -/
def Obligations.StepRunsTheFrontCommand : Prop :=
  ∀ (c : Instr) (rest : List Instr) (s : State), s.pending = c :: rest →
    step s = exec c { s with pending := rest }

/-- The model's choice (log 4): on an empty queue a step takes what is due, and idles where nothing is. Where nothing
is due, nothing is taken before a command either. -/
def Obligations.EmptyQueueTakesWhatIsDue : Prop :=
  (∀ s : State, s.pending = [] → step s = .next (catchUp s) ∧
     (s.phase ≠ .running ∨ (Quiet s ∧ s.expired = false) → step s = .next s)) ∧
  (∀ s : State, (LinksQuiet s → settleLinks s = s) ∧ (Quiet s → settle s = s ∧ ready s = s))

/-- The model's choice (log 16, and log 6 for the rows that cannot happen): every command answers a next state in every
state, and leaves the queue of waiting commands alone. R3, R16: a part that is held in reset or in start-up takes no
arrival, completion, tick or command; that it also does nothing at the rows that cannot happen there (a tick, an
expiry, a completion) is the model's choice too (log 6). -/
def Obligations.EveryCommandCompletes : Prop :=
  (∀ (c : Instr) (s : State), ∃ t, exec c s = .next t ∧ t.pending = s.pending) ∧
  (∀ (c : Instr) (s : State), isResetRow c = false → s.phase ≠ .running → exec c s = .next s)

/-- The model's choice (log 5, 6): a row that is not due changes nothing of its own, and a taking row whose command
is not at the head, or not takeable, takes none. -/
def Obligations.RowsNotDueChangeNothing : Prop :=
  (∀ (s : State) (k : DropNo) (m : Monitor), s.phase = .running →
     ((((settle s).drop k).candidate.any fun c => c.remaining == .expired) = false →
       exec (.presenceChangeAccepted k) s = .next (settle s)) ∧
     ((settle s).rateFullDue k = false → exec (.rateCreditFull k) s = .next (settle s)) ∧
     ((settle s).silenceDue k = false → exec (.silenceLimitReached k) s = .next (settle s)) ∧
     ((settle s).timerDue k m .alert = false → exec (.delayTimerExpiry k m) s = .next (settle s)) ∧
     ((settle s).timerDue k m .recovering = false → exec (.recoveryTimerExpiry k m) s = .next (settle s)) ∧
     ((settle s).boundaryDue = false → exec .secondBoundary s = .next (settle s)) ∧
     (s.limitDue k = false → exec (.probationLimitReached k) s = .next s) ∧
     (((settle s).drop k).decay ≠ some .expired → exec (.decayTimerExpiry k) s = .next (settle s)) ∧
     (((settle s).drop k).latchTimer ≠ some .expired → exec (.latchHoldExpiry k) s = .next (settle s)) ∧
     ((ready s).lossTimer ≠ some .expired → exec .managementLossExpiry s = .next (ready s)) ∧
     ((settle s).holdoff ≠ some .expired → exec .holdoffExpiry s = .next (settle s)) ∧
     (((ready s).drop k).tx = none → exec (.dropTransmissionCompletion k) s = .next (ready s)) ∧
     ((ready s).trunkTx = none → exec .trunkTransmissionCompletion s = .next (ready s)) ∧
     ((s.drop k).tx ≠ none ∨ (s.drop k).downQueue = [] → exec (.dropTransmitterStart k) s = .next s) ∧
     (s.trunkTx ≠ none → exec .grantDecision s = .next s)) ∧
  (∀ (s : State) (i : Instr) (row : CommandRow), (i, row) ∈ takingRows → s.phase = .running →
     (∀ c rest, (settleLinks s).commandQueue = c :: rest →
       rowOf c.payload ≠ row ∨ (settleLinks s).engine = .resetPending ∨ 2 ≤ (settleLinks s).responseQueue.length) →
     exec i s = .next (settleLinks s))

/-! ### Frames (chapter 1) -/

/-- R8: a frame the part originates is well formed, and passes the tests of the trunk frame checker. R7, bit by bit, for
its check value: a data bit equal to the bit shifted out leaves the shifted value, another combines it with 1021h. -/
def Obligations.OriginatedFramesAreWellFormed : Prop :=
  (∀ (dest src : Addr) (kind : Byte) (payload : List Byte) (inRange : DropNo → Addr → Bool),
     (kind = 0x11 ∨ kind = 0x12) → payload.length ≤ 240 →
     let l := buildFrame dest src kind payload
     l.length = payload.length + 8 ∧ frameDest l = dest ∧ frameSrc l = src ∧ frameKind l = kind ∧
       (frameLen l).toNat = payload.length ∧ framePayload l = payload ∧
       (classify .trunk inRange (receive { octets := l, violation := false, begun := 0, ended := 0 })).reason = none) ∧
  (crc16 [] = 0xFFFF ∧ (∀ l o, crc16 (l ++ [o]) = crcOctet (crc16 l) o) ∧
     (∀ c bit, crcBit c bit = if c.msb = bit then c <<< 1 else (c <<< 1) ^^^ 0x1021) ∧
     (∀ c o, crcOctet c o = crcBit (crcBit (crcBit (crcBit (crcBit (crcBit (crcBit (crcBit c
       (o.getLsbD 7)) (o.getLsbD 6)) (o.getLsbD 5)) (o.getLsbD 4)) (o.getLsbD 3)) (o.getLsbD 2))
       (o.getLsbD 1)) (o.getLsbD 0)) ∧
     ∀ (l : List Byte) (hi lo : Byte), checkMatches (l ++ [hi, lo]) = true ↔ crc16 l = word hi lo)

/-- R10, R11: the RUNT, CHECK and LENGTH tests, at every port, in this order; LENGTH comes before the KIND test, and a
HEARTBEAT from the trunk that fails it is not routed. R9, R12: the KIND and SOURCE tests of a frame that passes
those three. -/
def Obligations.FrameTests : Prop :=
  ((∀ (port : Port) (inRange : DropNo → Addr → Bool) (r : Reception),
     (faultyReason port inRange r = some .runt ↔ r.count < 8) ∧
     (faultyReason port inRange r = some .check ↔ 8 ≤ r.count ∧ r.checkOk = false)) ∧
   ∀ (port : Port) (inRange : DropNo → Addr → Bool) (f : LineFrame),
     (f.octets.length = 5 → faultyReason port inRange (receive f) = some .runt) ∧
     (f.octets.length = 300 → f.violation = false → checkMatches f.octets = true →
       faultyReason port inRange (receive f) = some .length) ∧
     (f.octets.length = 300 → f.violation = true ∨ checkMatches f.octets = false →
       faultyReason port inRange (receive f) = some .check)) ∧
  ((∀ (port : Port) (inRange : DropNo → Addr → Bool) (r : Reception),
     (faultyReason port inRange r = some .length ↔ 8 ≤ r.count ∧ r.checkOk = true ∧
       (240 < (frameLen r.stored).toNat ∨ r.count ≠ (frameLen r.stored).toNat + 8 ∨
         (frameKind r.stored = 0x02 ∧ ((frameLen r.stored).toNat = 0 ∨
           (17 ≤ (frameLen r.stored).toNat ∧ (frameLen r.stored).toNat ≤ 240))))) ∧
     (8 ≤ r.count → r.checkOk = true → 248 < r.count → faultyReason port inRange r = some .length)) ∧
   ∀ (s : State) (f : LineFrame), s.phase = .running → Arrives f (ready s) → 8 ≤ f.octets.length →
     f.violation = false → checkMatches f.octets = true → frameKind f.octets = 0x02 → (frameLen f.octets).toNat = 0 →
     exec (.trunkArrival f) s = .next (countDevice .trunkFaulty (ready s))) ∧
  (∀ (inRange : DropNo → Addr → Bool) (r : Reception) (k : DropNo),
     8 ≤ r.count → r.checkOk = true → lengthFails r = false →
     (faultyReason .trunk inRange r =
       if frameKind r.stored ∈ [0x01, 0x02, 0x10, 0x11, 0x12] then none else some .kind) ∧
     (faultyReason (.drop k) inRange r =
       if frameKind r.stored ∉ [0x01, 0x02] then some .kind
       else if inRange k (frameSrc r.stored) = false then some .source else none))

/-! ### Resets (R16, R18, R23, R145) -/

/-- R3, R16: the power-on and line resets stop the part, end reception and hold the part; RESET_N low for less than 10 us
is ignored. The reset is released when the supply is stable and RESET_N is high, and start-up then runs. That the
blocks hold their reset values (`BlocksAtReset`) already when the reset begins is the model's choice (log 8); R16
gives them at the end of start-up, which EndOfStartUpValues states. -/
def Obligations.ResetLinesHoldThePart : Prop :=
  ((∀ s : State, ∃ t, exec .powerOnReset s = .next t ∧ t.phase = .held .powerOn ∧
     t.pins = { s.pins with supplyStable := false } ∧ t.lastCause = s.lastCause ∧ ReceptionEnded s t ∧
     BlocksAtReset t) ∧
   (∀ (s : State) (n : Nat), n < 10 → exec (.lineReset n) s = .next s) ∧
   (∀ (s : State) (n : Nat), 10 ≤ n → s.phase = .running →
     ∃ t, exec (.lineReset n) s = .next t ∧ t.phase = .held .line ∧
       t.pins = { s.pins with resetNHigh := false } ∧ t.lastCause = s.lastCause ∧ ReceptionEnded s t ∧
       BlocksAtReset t) ∧
   (∀ (s : State) (n : Nat) (cause : ResetCause), 10 ≤ n → s.phase = .startUp cause →
     ∃ t, exec (.lineReset n) s = .next t ∧ t.phase = .held cause ∧
       t.pins = { s.pins with resetNHigh := false } ∧ t.lastCause = s.lastCause ∧ ReceptionEnded s t ∧
       BlocksAtReset t) ∧
   ∀ (s : State) (n : Nat) (cause : ResetCause), 10 ≤ n → s.phase = .held cause →
     exec (.lineReset n) s = .next { s with pins := { s.pins with resetNHigh := false } }) ∧
  (∀ (s : State) (cause : ResetCause) (stable high : Bool), s.phase = .held cause →
     exec (.resetRelease stable high) s = .next { s with
       phase := if stable = true ∧ high = true then .startUp cause else .held cause
       pins := { s.pins with supplyStable := stable, resetNHigh := high } })

/-- R3, R16, R18, R23, R59, R95, R107, R135, R147, R155: the running part at the end of start-up. -/
def Obligations.EndOfStartUpValues : Prop :=
  ∀ (s : State) (cause : ResetCause) (straps : BitVec 4), s.phase = .startUp cause →
    ∃ t, exec (.endOfStartUp straps) s = .next t ∧ ReceptionEnded s t ∧ BlocksAtReset t ∧ t.phase = .running ∧
      t.lastCause = cause ∧ t.pins = { s.pins with asel := straps } ∧ t.lossTimer = none ∧
      MapAtReset straps t.staging ∧ MapAtReset straps t.active ∧
      (∀ n : Fin 8, t.policies[n] = Policy.default) ∧
      (∀ n : DropNo, t.classes[n] = { valid := false, low := 0, high := 0, cls := .ok }) ∧
      t.settings = { timeout := 0, fallbackOption := .report, fallbackPolicy := 7, debounce := 16
                     snapshot := false, noticeMask := 0, suspend := false, holdoff := 100 } ∧
      ∀ k, (t.drop k).admission = .vacant ∧ (t.drop k).level = .absent ∧
        t.upGate k = false ∧ t.downGate k = false

/-- R144: RESET answers OK, and the engine goes to RESET_PENDING; the reset itself waits for the completion of that
response. R3, R18, R23, R58, R107, R145, R155: the COMMAND reset at that completion, with what it keeps. R146: a valid
command that was whole when the reset took place arrives also when its arrival is taken after it. That every other
whole frame, at any port, does so too is the model's choice (log 10). -/
def Obligations.ResetCommandResets : Prop :=
  (∀ (s : State) (c : Command) (rest : List Command), Takeable .reset s c rest → c.payload.length = 2 →
     exec .reset s = .next { counted s rest with
       engine := .resetPending
       responseQueue := (settleLinks s).responseQueue ++
         [{ octets := responseTo (ownOf s) c .ok [], isReset := true }] }) ∧
  (∀ (s : State) (l : List Byte), s.phase = .running →
     (ready s).trunkTx = some { octets := l, source := .response true } →
     ∃ t, exec .trunkTransmissionCompletion s = .next t ∧ ReceptionEnded (ready s) t ∧ BlocksAtReset t ∧
       t.phase = .running ∧
       t.lastCause = .command ∧ t.staging = (ready s).staging ∧ t.active = (ready s).active ∧
       t.policies = (ready s).policies ∧ t.classes = (ready s).classes ∧ t.settings = (ready s).settings ∧
       t.pins = (ready s).pins ∧ t.sampled = false ∧
       t.lossTimer = (if (ready s).settings.timeout = 0 then none else some (.left (ready s).settings.timeout)) ∧
       (∀ f : LineFrame, f.octets ≠ [] → f.begun = f.ended → f.ended = (ready s).resets → Arrives f (ready t)) ∧
       ∀ k, (t.drop k).admission = (if (ready s).active.size k = 0 then .vacant else .probation) ∧
         (t.drop k).level = ((ready s).drop k).level ∧ t.upGate k = false ∧
         t.downGate k = decide ((ready s).active.size k ≠ 0))

/-- R38: every reset loses the frames in the queues and in transmission, uncounted. -/
def Obligations.ResetsLoseQueuedFrames : Prop :=
  (∀ s : State, ∃ t, exec .powerOnReset s = .next t ∧ QueuesLost t) ∧
  (∀ (s : State) (n : Nat), 10 ≤ n → (∀ cause, s.phase ≠ .held cause) →
    ∃ t, exec (.lineReset n) s = .next t ∧ QueuesLost t) ∧
  (∀ (s : State) (cause : ResetCause) (straps : BitVec 4), s.phase = .startUp cause →
    ∃ t, exec (.endOfStartUp straps) s = .next t ∧ QueuesLost t) ∧
  ∀ (s : State) (l : List Byte), s.phase = .running →
    (ready s).trunkTx = some { octets := l, source := .response true } →
    ∃ t, exec .trunkTransmissionCompletion s = .next t ∧ QueuesLost t

/-- R58: the arbiter after every reset. At the rows POWER_ON_RESET and LINE_RESET, while the part is still held, this is
the model's choice (log 8: reset values already when the reset begins); R58 says it of the end of start-up and of the
COMMAND reset. -/
def Obligations.ArbiterAfterReset : Prop :=
  (∀ s : State, ∃ t, exec .powerOnReset s = .next t ∧ ArbiterAtReset t) ∧
  (∀ (s : State) (n : Nat), 10 ≤ n → (∀ cause, s.phase ≠ .held cause) →
    ∃ t, exec (.lineReset n) s = .next t ∧ ArbiterAtReset t) ∧
  (∀ (s : State) (cause : ResetCause) (straps : BitVec 4), s.phase = .startUp cause →
    ∃ t, exec (.endOfStartUp straps) s = .next t ∧ ArbiterAtReset t) ∧
  ∀ (s : State) (l : List Byte), s.phase = .running →
    (ready s).trunkTx = some { octets := l, source := .response true } →
    ∃ t, exec .trunkTransmissionCompletion s = .next t ∧ ArbiterAtReset t

/-- R61: the default record, and what a drop governed by it does. -/
def Obligations.DefaultPolicyRecord : Prop :=
  (∀ (s : State) (cause : ResetCause) (straps : BitVec 4), s.phase = .startUp cause →
    ∃ t, exec (.endOfStartUp straps) s = .next t ∧ ∀ n : Fin 8, t.policies[n] = Policy.default) ∧
  (∀ m, (Policy.default.mon m).enable = false ∧ (Policy.default.mon m).tripDelay = 0 ∧
    (Policy.default.mon m).recovery = 0 ∧ (Policy.default.mon m).action = .both ∧
    (Policy.default.mon m).auto = true ∧ (Policy.default.mon m).latch = true) ∧
  Policy.default.window = 8 ∧ Policy.default.tripCount = 2 ∧ Policy.default.releaseCount = 0 ∧
  Policy.default.depth = 4096 ∧ Policy.default.refill = 64 ∧ Policy.default.silenceLimit = 1000 ∧
  Policy.default.persistence = 10 ∧ Policy.default.acceptance = 8 ∧ Policy.default.latchLimit = 0 ∧
  Policy.default.decayInterval = 60 ∧ Policy.default.latchHold = 0 ∧
  Policy.default.replacementRelease = true ∧ Policy.default.goodRun = 3 ∧ Policy.default.probationLimit = 0 ∧
  ∀ (s : State) (k : DropNo), s.policyOf k = Policy.default →
    (∀ m, s.runs k m = false) ∧ s.latchesAt k = false ∧ s.limitDue k = false ∧
    ((s.drop k).admission = .probation → s.heartbeatGood k = true →
      ((judgeRun k s).drop k).admission = if (s.drop k).runCount < 2 then .probation else .admitted)

/-! ### Counters, flags, gates and purges (chapters 3, 6, 9, 10) -/

/-- R166, R167: an advance of a drop counter and of a device counter, its wrap, and its frame. -/
def Obligations.CountersAdvance : Prop :=
  (∀ (k : DropNo) (c : DropCounter) (s : State), let t := countDrop k c s
     (t.drop k).count c = (s.drop k).count c + 1 ∧
     (∀ e, e ≠ c → (t.drop k).count e = (s.drop k).count e) ∧
     (∀ f, f ≠ .wrap → (t.drop k).flag f = (s.drop k).flag f) ∧
     (t.drop k).flag .wrap = ((s.drop k).flag .wrap || (s.drop k).count c == 0xFFFF) ∧
     t.noticePending = (s.noticePending ||
       ((s.drop k).count c == 0xFFFF && !(s.drop k).flag .wrap && s.notifies 9)) ∧
     OnlyDrop k s t ∧ OnlyFlagsAndCounts (s.drop k) (t.drop k)) ∧
  (∀ (c : DeviceCounter) (s : State), let t := countDevice c s
     t.deviceCount c = s.deviceCount c + 1 ∧ (∀ e, e ≠ c → t.deviceCount e = s.deviceCount e) ∧
     (∀ f, f ≠ .deviceWrap → t.deviceFlag f = s.deviceFlag f) ∧
     t.deviceFlag .deviceWrap = (s.deviceFlag .deviceWrap || s.deviceCount c == 0xFFFF) ∧
     t.noticePending = (s.noticePending ||
       (s.deviceCount c == 0xFFFF && !s.deviceFlag .deviceWrap && s.notifies 15)) ∧
     t = { s with liveDevice := t.liveDevice, deviceFlags := t.deviceFlags, noticePending := t.noticePending })

/-- R157, R159: raising a flag. A flag that is set already has no effect; a newly set one sets notice-pending when
its kind is unmasked, notices are not suspended and a controller address is loaded. -/
def Obligations.FlagsAreRaised : Prop :=
  (∀ (s : State) (kind : Nat), s.notifies kind = true ↔
    s.settings.noticeMask.getLsbD kind = false ∧ s.settings.suspend = false ∧ s.active.header.controller ≠ 0) ∧
  (∀ (k : DropNo) (f : DropFlag) (s : State), let t := raiseDrop k f s
    ((s.drop k).flag f = true → t = s) ∧
    ((s.drop k).flag f = false → (t.drop k).flag f = true ∧
      t.noticePending = (s.noticePending || s.notifies f.kind)) ∧
    (∀ g, g ≠ f → (t.drop k).flag g = (s.drop k).flag g) ∧
    OnlyDrop k s t ∧ t.drop k = { s.drop k with flags := (t.drop k).flags }) ∧
  ∀ (f : DeviceFlag) (s : State), let t := raiseDevice f s
    (s.deviceFlag f = true → t = s) ∧
    (s.deviceFlag f = false → t.deviceFlag f = true ∧
      t.noticePending = (s.noticePending || s.notifies f.kind)) ∧
    (∀ g, g ≠ f → t.deviceFlag g = s.deviceFlag g) ∧
    t = { s with deviceFlags := t.deviceFlags, noticePending := t.noticePending }

/-- R125: each gate is open exactly under the conditions of the rule, and READ_DROP reports both. -/
def Obligations.GatesAreDerived : Prop :=
  ∀ (s : State) (k : DropNo),
    (s.upGate k = true ↔ (s.drop k).admission = .admitted ∧
      (∀ m, ((s.policyOf k).mon m).action = .up ∨ ((s.policyOf k).mon m).action = .both →
        ((s.drop k).mon m).state ≠ .tripped ∧ ((s.drop k).mon m).state ≠ .recovering) ∧
      (s.drop k).upHold = false ∧ s.fallback ≠ some .isolate) ∧
    (s.downGate k = true ↔ ((s.drop k).admission = .probation ∨ (s.drop k).admission = .admitted) ∧
      (∀ m, ((s.policyOf k).mon m).action = .down ∨ ((s.policyOf k).mon m).action = .both →
        ((s.drop k).mon m).state ≠ .tripped ∧ ((s.drop k).mon m).state ≠ .recovering) ∧
      (s.drop k).downHold = false ∧ s.fallback ≠ some .isolate) ∧
    octetAt (encodeDrop s k) 1 = (if s.upGate k = true then 1 else 0) ∧
    octetAt (encodeDrop s k) 2 = if s.downGate k = true then 1 else 0

/-- R51, R52, R126: an event purges exactly the queues whose gates were open before it and are closed after it,
counts each frame removed, and changes nothing else that its own work left. -/
def Obligations.EventsPurgeClosedGates : Prop :=
  ∀ (work : State → State) (s : State), let u := work s; let t := event work s
    OnlyDrops u t ∧ ∀ k, t.upGate k = u.upGate k ∧ t.downGate k = u.downGate k ∧
      (t.drop k).upQueue = (if upCloses s u k then [] else (u.drop k).upQueue) ∧
      (t.drop k).downQueue = (if downCloses s u k then [] else (u.drop k).downQueue) ∧
      (t.drop k).count .gatedUp =
        (u.drop k).count .gatedUp + BitVec.ofNat 16 (if upCloses s u k then (u.drop k).upQueue.length else 0) ∧
      (t.drop k).count .gatedDown =
        (u.drop k).count .gatedDown +
          BitVec.ofNat 16 (if downCloses s u k then (u.drop k).downQueue.length else 0) ∧
      (∀ c, c ≠ .gatedUp → c ≠ .gatedDown → (t.drop k).count c = (u.drop k).count c) ∧
      (∀ f, f ≠ .wrap → (t.drop k).flag f = (u.drop k).flag f) ∧
      t.drop k = { u.drop k with upQueue := (t.drop k).upQueue, downQueue := (t.drop k).downQueue
                                 flags := (t.drop k).flags, live := (t.drop k).live }

/-! ### The upstream path (R40 to R44, R89 to R99) -/

/-- R13, R41, R72, R73, R173: the faulty outcome, by the frame's own reason `e` or by an injection; R64 to R69: where the
condition of ERR changes, what the monitor does, and what its trip does to the drop (R70, R113 to R116). -/
def Obligations.FaultyDropArrival : Prop :=
  ∀ (k : DropNo) (f : LineFrame) (s : State) (e : FaultyReason) (left : Nat), s.phase = .running →
    Arrives f (ready s) → ((ready s).drop k).admission ≠ .vacant →
    ((classify (.drop k) (ready s).active.inRange (receive f)).reason = some e ∧
        left = ((ready s).drop k).injection ∨
      (classify (.drop k) (ready s).active.inRange (receive f)).reason = none ∧
        ((ready s).drop k).injection = left + 1 ∧ e = .injected) →
    ∃ t, exec (.dropArrival k f) s = .next t ∧ OnlyDrop k (ready s) t ∧ QueuesPurged k (ready s) t ∧
      let d := (ready s).drop k
      let d' := t.drop k
      let p := (ready s).policyOf k
      let runs := (ready s).runs k .err
      d'.lastFaulty = some e ∧ d'.injection = left ∧
      d'.errWindow = keepLast p.window (d.errWindow ++ [.faulty]) ∧
      (let judged := errJudged p (faultyMarks d'.errWindow) (d.mon .err).condition
       let trips := trippedBy .err p runs d judged
       (d'.mon .err).condition = judged ∧ MonitorMoved .err p runs d d' judged ∧
        TripsCounted p trips d d' ∧ ProtectionKept (afterTrips p trips d) d') ∧
      (∀ m, m ≠ .err → d'.mon m = d.mon m) ∧
      d'.count .faulty = d.count .faulty + 1 ∧
      (∀ c, c ≠ .faulty → c ≠ .trips → c ≠ .gatedUp → c ≠ .gatedDown → d'.count c = d.count c) ∧
      d'.count .gatedUp = d.count .gatedUp +
        BitVec.ofNat 16 (if upCloses (ready s) t k then d.upQueue.length else 0) ∧
      d'.count .gatedDown = d.count .gatedDown +
        BitVec.ofNat 16 (if downCloses (ready s) t k then d.downQueue.length else 0) ∧
      (∀ f, f ∉ [.alert .err, .trip .err, .cleared .err, .latch, .wrap] → d'.flag f = d.flag f) ∧
      d'.history = d.history ∧ d'.accepted = d.accepted ∧ d'.credit = d.credit ∧ d'.silence = d.silence ∧
      PortKept d d'

/-- R42, R72, R89 to R93, R96, R98, R99, R110: a good HEARTBEAT with status code `c` is consumed; R64 to R69: what ERR,
SIL and STAT do where their conditions change, and what their trips do to the drop (R70, R113 to R116). The model's
choice (log 20): the run is judged by R99 on the monitors that these moves leave, also where the table of R100 calls a
heartbeat after a SIL trip not good. -/
def Obligations.HeartbeatArrival : Prop :=
  ∀ (k : DropNo) (f : LineFrame) (s : State), s.phase = .running → Arrives f (ready s) →
    ((ready s).drop k).admission ≠ .vacant →
    (classify (.drop k) (ready s).active.inRange (receive f)).reason = none →
    ((ready s).drop k).injection = 0 → frameKind f.octets = 0x02 →
    ∃ t, exec (.dropArrival k f) s = .next t ∧ OnlyDrop k (ready s) t ∧ QueuesPurged k (ready s) t ∧
      let c := octetAt f.octets 6
      let d := (ready s).drop k
      let d' := t.drop k
      let p := (ready s).policyOf k
      let runs := (ready s).runs k
      let judged := errJudged p (faultyMarks d'.errWindow) (d.mon .err).condition
      let fault := d'.accepted.any fun a => (ready s).classOf a == .fault
      d'.errWindow = keepLast p.window (d.errWindow ++ [.good]) ∧
      (d'.mon .err).condition = judged ∧ MonitorMoved .err p (runs .err) d d' judged ∧
      MonitorMoved .sil p (runs .sil) d d' false ∧ MonitorMoved .stat p (runs .stat) d d' fault ∧
      (let trips := trippedBy .err p (runs .err) d judged ++ trippedBy .stat p (runs .stat) d fault
       let e := afterTrips p trips d
       TripsCounted p trips d d' ∧ RepeatKept e d' ∧ RunJudged p e d'
         (d'.accepted.all (fun a => (ready s).classOf a == .ok) && !d'.anyClosing)) ∧
      d'.history = keepLast p.persistence (d.history ++ [c]) ∧
      d'.accepted = (if d.accepted ≠ some c ∧ p.acceptance ≤ d'.history.count c then some c else d.accepted) ∧
      (d'.mon .stat).condition = fault ∧
      d'.silence = 0 ∧ (d'.mon .sil).condition = false ∧ d'.mon .rate = d.mon .rate ∧
      d'.count .heartbeats = d.count .heartbeats + 1 ∧
      (∀ n, n ∉ [.heartbeats, .trips, .gatedUp, .gatedDown] → d'.count n = d.count n) ∧
      d'.count .gatedUp = d.count .gatedUp +
        BitVec.ofNat 16 (if upCloses (ready s) t k then d.upQueue.length else 0) ∧
      d'.count .gatedDown = d.count .gatedDown +
        BitVec.ofNat 16 (if downCloses (ready s) t k then d.downQueue.length else 0) ∧
      d'.flag .status = (d.flag .status || decide (d'.accepted ≠ d.accepted)) ∧
      (∀ f, f ∉ [.alert .err, .trip .err, .cleared .err, .cleared .sil, .alert .stat, .trip .stat, .cleared .stat,
        .latch, .admitted, .status, .wrap] → d'.flag f = d.flag f) ∧
      (d'.count .trips = d.count .trips → d'.repeatCount = d.repeatCount ∧ d'.decay = d.decay ∧
        d'.latchTimer = d.latchTimer ∧ d'.absenceSeen = d.absenceSeen) ∧
      (d.admission ≠ .probation → d'.runCount = d.runCount ∧
        (d'.count .trips = d.count .trips → d'.admission = d.admission)) ∧
      (d.admission = .probation →
        if d'.accepted.all (fun a => (ready s).classOf a == .ok) = true ∧ d'.anyClosing = false then
          d'.runCount = d.runCount + 1 ∧
            d'.admission = if p.goodRun ≤ d.runCount + 1 then .admitted else .probation
        else d'.runCount = 0 ∧ (d'.admission = .probation ∨ d'.admission = .latched) ∧
          (d'.count .trips = d.count .trips → d'.admission = .probation)) ∧
      d'.lastFaulty = d.lastFaulty ∧ d'.injection = 0 ∧ d'.credit = d.credit ∧ PortKept d d'

/-- R42 to R44: a good DATA frame. `g` is the state its good mark leaves (step 2); the credit, the gate and the
room then decide, with one counter for the frame (R39); R64 to R69: what ERR and RATE do where their conditions
change, and what their trips do to the drop (R70, R113 to R116). -/
def Obligations.DataArrival : Prop :=
  ∀ (k : DropNo) (f : LineFrame) (s : State), s.phase = .running → Arrives f (ready s) →
    ((ready s).drop k).admission ≠ .vacant →
    (classify (.drop k) (ready s).active.inRange (receive f)).reason = none →
    ((ready s).drop k).injection = 0 → frameKind f.octets = 0x01 →
    ∃ t, exec (.dropArrival k f) s = .next t ∧ OnlyDrop k (ready s) t ∧
      let g := appendMark k .good (ready s)
      let d := (ready s).drop k
      let d' := t.drop k
      let p := (ready s).policyOf k
      let runs := (ready s).runs k
      let rate := p.rate.enable
      let overrun := rate && decide (d.credit < f.octets.length)
      let judged := errJudged p (faultyMarks d'.errWindow) (d.mon .err).condition
      let h : HeldFrame :=
        { octets := f.octets, cls := classify (.drop k) (ready s).active.inRange (receive f) }
      let purged := if upCloses (ready s) t k then [] else d.upQueue
      let lost := if upCloses (ready s) t k then d.upQueue.length else 0
      (if overrun = true then
        d'.count .overrun = d.count .overrun + 1 ∧ d'.credit = d.credit ∧
          (d'.mon .rate).condition = true ∧ d'.upQueue = purged ∧
          d'.count .gatedUp = d.count .gatedUp + BitVec.ofNat 16 lost ∧
          d'.count .overflowUp = d.count .overflowUp ∧ d'.flag .overflow = d.flag .overflow
      else
        d'.credit = (if rate = true then d.credit - f.octets.length else d.credit) ∧
        d'.mon .rate = d.mon .rate ∧ d'.count .overrun = d.count .overrun ∧
        (if g.upGate k = false then
          d'.count .gatedUp = d.count .gatedUp + BitVec.ofNat 16 (1 + lost) ∧ d'.upQueue = purged ∧
            d'.count .overflowUp = d.count .overflowUp ∧ d'.flag .overflow = d.flag .overflow
        else if 4 ≤ d.upQueue.length then
          d'.count .overflowUp = d.count .overflowUp + 1 ∧ d'.flag .overflow = true ∧ d'.upQueue = d.upQueue ∧
            d'.count .gatedUp = d.count .gatedUp
        else d'.upQueue = d.upQueue ++ [h] ∧ d'.count .gatedUp = d.count .gatedUp ∧
          d'.count .overflowUp = d.count .overflowUp ∧ d'.flag .overflow = d.flag .overflow)) ∧
      d'.downQueue = (if downCloses (ready s) t k then [] else d.downQueue) ∧
      d'.count .gatedDown = d.count .gatedDown +
        BitVec.ofNat 16 (if downCloses (ready s) t k then d.downQueue.length else 0) ∧
      d'.errWindow = keepLast p.window (d.errWindow ++ [.good]) ∧
      d'.mon .err = (g.drop k).mon .err ∧ MonitorMoved .err p (runs .err) d d' judged ∧
      MonitorMoved .rate p (runs .rate) d d' (overrun || (d.mon .rate).condition) ∧
      (let trips := trippedBy .err p (runs .err) d judged ++ trippedBy .rate p (runs .rate) d overrun
       TripsCounted p trips d d' ∧ ProtectionKept (afterTrips p trips d) d') ∧
      d'.mon .sil = d.mon .sil ∧ d'.mon .stat = d.mon .stat ∧
      d'.history = d.history ∧ d'.accepted = d.accepted ∧ d'.silence = d.silence ∧
      d'.lastFaulty = d.lastFaulty ∧ d'.injection = 0 ∧ d'.count .heartbeats = d.count .heartbeats ∧
      d'.count .faulty = d.count .faulty ∧
      (∀ e, e ∉ [.overrun, .gatedUp, .gatedDown, .overflowUp, .trips] → d'.count e = d.count e) ∧
      (∀ e, e ∉ [.alert .err, .trip .err, .cleared .err, .alert .rate, .trip .rate, .latch, .overflow, .wrap] →
        d'.flag e = d.flag e) ∧ PortKept d d'

/-! ### The downstream path (R47 to R50, R127, R128) -/

/-- R40, R47, R127: any frame at a VACANT drop, and the trunk arrivals that are discarded, each with its one counter
and no other effect. R3: a frame that a reset came upon before its last octet never arrives. The rest of what `Arrives`
leaves out is the model's choice: a frame that was whole before a power-on or line reset, or was begun while the part
was held or in start-up, and reset counts that cannot be (log 10), and a frame without an octet (log 6). -/
def Obligations.DiscardedArrivals : Prop :=
  (∀ (k : DropNo) (f : LineFrame) (s : State), s.phase = .running → ¬ Arrives f (ready s) →
     exec (.dropArrival k f) s = .next (ready s) ∧ exec (.trunkArrival f) s = .next (ready s)) ∧
  (∀ (k : DropNo) (f : LineFrame) (s : State), s.phase = .running →
     Arrives f (ready s) → ((ready s).drop k).admission = .vacant →
     exec (.dropArrival k f) s = .next (countDrop k .gatedUp (ready s))) ∧
  (∀ (f : LineFrame) (s : State), s.phase = .running → Arrives f (ready s) →
     let reason := (classify .trunk (ready s).active.inRange (receive f)).reason
     let route := (ready s).active.route (frameDest f.octets)
     (reason ≠ none → exec (.trunkArrival f) s = .next (countDevice .trunkFaulty (ready s))) ∧
     (reason = none → route = .own → frameKind f.octets ≠ 0x10 →
       exec (.trunkArrival f) s = .next (countDevice .misaddressed (ready s))) ∧
     (reason = none → route = .own → frameKind f.octets = 0x10 →
       frameSrc f.octets = 0x0000 ∨ frameSrc f.octets = 0xFFFF →
       exec (.trunkArrival f) s = .next (countDevice .commandErrors (ready s))) ∧
     (reason = none → route = .none → exec (.trunkArrival f) s = .next (countDevice .unrouted (ready s))))

/-- R21, R36: the derived bases, and the answer for a DEST under the law of the address plane. -/
def Obligations.RoutingAnswer : Prop :=
  (∀ m : DropMap, m.base 0 = m.header.planeBase.toNat ∧
     (∀ j k : DropNo, k.val = j.val + 1 → m.base k = m.base j + m.size j) ∧
     ∀ k, m.size k = if m.entries[k].sizeCode = 0 then 0 else 2 ^ m.entries[k].sizeCode) ∧
  (∀ (m : DropMap) (a : Addr), PlaneLaw m →
     (m.route a = .own ↔ a = m.header.own) ∧ (m.route a = .broadcast ↔ a = 0xFFFF) ∧
     (∀ k, m.route a = .drop k ↔ m.base k ≤ a.toNat ∧ a.toNat < m.base k + m.size k) ∧
     (m.route a = .none ↔ a ≠ m.header.own ∧ a ≠ 0xFFFF ∧
       ∀ k, ¬ (m.base k ≤ a.toNat ∧ a.toNat < m.base k + m.size k)))

/-- R47 to R49: a good trunk frame routed to drop k, or broadcast, is offered to each drop it names, and to no
other: refused at a closed gate, refused for room, or queued as it arrived. -/
def Obligations.TrunkArrivalOffered : Prop :=
  ∀ (f : LineFrame) (s : State), s.phase = .running → Arrives f (ready s) →
    (classify .trunk (ready s).active.inRange (receive f)).reason = none →
    let route := (ready s).active.route (frameDest f.octets)
    (route = .broadcast ∨ ∃ k, route = .drop k) →
    ∃ t, exec (.trunkArrival f) s = .next t ∧ OnlyDrops (ready s) t ∧ ∀ k,
      let d := (ready s).drop k
      let d' := t.drop k
      let h : HeldFrame := { octets := f.octets, cls := classify .trunk (ready s).active.inRange (receive f) }
      if route = .drop k ∨ (route = .broadcast ∧ (ready s).active.size k ≠ 0) then
        if (ready s).downGate k = false then
          d'.count .gatedDown = d.count .gatedDown + 1 ∧ (∀ c, c ≠ .gatedDown → d'.count c = d.count c) ∧
            (∀ g, g ≠ .wrap → d'.flag g = d.flag g) ∧ OnlyFlagsAndCounts d d'
        else if 4 ≤ d.downQueue.length then
          d'.count .overflowDown = d.count .overflowDown + 1 ∧ d'.flag .overflow = true ∧
            (∀ c, c ≠ .overflowDown → d'.count c = d.count c) ∧
            (∀ g, g ≠ .overflow → g ≠ .wrap → d'.flag g = d.flag g) ∧ OnlyFlagsAndCounts d d'
        else d' = { d with downQueue := d.downQueue ++ [h] }
      else d' = d

/-- R127, R128, R148, R153: a valid command is queued or lost. In NORMAL it restarts the loss timer; in FALLBACK it
ends it and undoes the option. Under REPORT and ISOLATE no drop changes and no queue is purged; under POLICY the
drops whose map index differs from the fallback policy change back. -/
def Obligations.ValidCommandArrival : Prop :=
  (∀ (f : LineFrame) (s : State), s.phase = .running → Arrives f (ready s) →
     (classify .trunk (ready s).active.inRange (receive f)).reason = none →
     (ready s).active.route (frameDest f.octets) = .own → frameKind f.octets = 0x10 →
     frameSrc f.octets ≠ 0x0000 → frameSrc f.octets ≠ 0xFFFF → (ready s).fallback = none →
     exec (.trunkArrival f) s = .next (queued f { ready s with
       lossTimer := if (ready s).settings.timeout = 0 then none else some (.left (ready s).settings.timeout) })) ∧
  (∀ (f : LineFrame) (s : State) (o : FallbackOption), s.phase = .running →
     Arrives f (ready s) →
     (classify .trunk (ready s).active.inRange (receive f)).reason = none →
     (ready s).active.route (frameDest f.octets) = .own → frameKind f.octets = 0x10 →
     frameSrc f.octets ≠ 0x0000 → frameSrc f.octets ≠ 0xFFFF → (ready s).fallback = some o →
     let fb := (ready s).settings.fallbackPolicy
     let normal := raiseDevice .fallbackExit { ready s with
       fallback := none
       lossTimer := if (ready s).settings.timeout = 0 then none else some (.left (ready s).settings.timeout) }
     (o ≠ .policy → exec (.trunkArrival f) s = .next (queued f normal)) ∧
     (o = .policy → ∃ t, exec (.trunkArrival f) s = .next t ∧
       t = closeGates (ready s) (queued f (changePolicies fb (fun _ => (ready s).policies[fb]) normal)) ∧
       (∀ k, t.policyIndex k = (ready s).active.entries[k].policy) ∧
       PolicyMoves fb (fun _ => (ready s).policies[fb]) (ready s) normal t))

/-! ### The Trunk Output Arbiter (R5, R53 to R56, R161, R162) -/

/-- R54 to R56, R161, R162: with the transmitter IDLE the head response is granted first and the pointer stays; without
a response, a pending notice outside the holdoff, when it lists something; where no notice is sent (none pending,
the holdoff running, or nothing to list), the first non-empty upstream queue after the pointer, the pointed drop
last. -/
def Obligations.GrantDecisionChooses : Prop :=
  (∀ (s : State) (r : Response) (rest : List Response), s.phase = .running → s.trunkTx = none →
     s.responseQueue = r :: rest →
     exec .grantDecision s = .next { s with
       responseQueue := rest, trunkTx := some { octets := r.octets, source := .response r.isReset } }) ∧
  (∀ s : State, s.phase = .running → s.trunkTx = none → s.responseQueue = [] → s.noticePending = true →
     s.holdoff = none → s.listsSomething = true →
     exec .grantDecision s = .next { s with
       noticePending := false
       trunkTx := some { octets := buildFrame s.active.header.controller s.active.header.own 0x12 (noticePayload s)
                         source := .notice } }) ∧
  (∀ s : State, s.phase = .running → s.trunkTx = none → s.responseQueue = [] →
     (s.noticePending = false ∨ s.holdoff ≠ none ∨ s.listsSomething = false) →
     let pending := s.noticePending && s.holdoff.isSome
     ((∀ k, (s.drop k).upQueue = []) → exec .grantDecision s = .next { s with noticePending := pending }) ∧
     ∀ (n : Nat) (h : HeldFrame) (rest : List HeldFrame), n < 16 →
       let turn : Nat → DropNo := fun i => s.pointer + 1 + Fin.ofNat 16 i
       (∀ i, i < n → (s.drop (turn i)).upQueue = []) → (s.drop (turn n)).upQueue = h :: rest →
       exec .grantDecision s = .next
         { s.modDrop (turn n) (fun d => { d with upQueue := rest }) with
           noticePending := pending, pointer := turn n
           trunkTx := some { octets := h.octets, source := .upstream (turn n) } })

/-- R5: an IDLE drop transmitter takes the head frame of its downstream queue. R4, R5, R50: a completion on a drop link
frees the transmitter and counts DOWN_FORWARDED, whatever the gate. R5, R45, R164: a completion on the trunk of a
forwarded frame, of a response, and of a notice, which starts the holdoff timer; the expiry of that timer stops it. -/
def Obligations.TransmittersWork : Prop :=
  (∀ (k : DropNo) (s : State) (h : HeldFrame) (rest : List HeldFrame), s.phase = .running →
     (s.drop k).tx = none → (s.drop k).downQueue = h :: rest →
     exec (.dropTransmitterStart k) s =
       .next (s.modDrop k fun d => { d with tx := some h, downQueue := rest })) ∧
  (∀ (k : DropNo) (s : State) (h : HeldFrame), s.phase = .running → ((ready s).drop k).tx = some h →
     exec (.dropTransmissionCompletion k) s =
       .next (countDrop k .downForwarded ((ready s).modDrop k fun d => { d with tx := none }))) ∧
  (∀ (s : State) (l : List Byte), s.phase = .running →
     (∀ k, (ready s).trunkTx = some { octets := l, source := .upstream k } →
       exec .trunkTransmissionCompletion s =
         .next (countDrop k .upForwarded { ready s with trunkTx := none })) ∧
     ((ready s).trunkTx = some { octets := l, source := .response false } →
       exec .trunkTransmissionCompletion s = .next { ready s with trunkTx := none }) ∧
     ((ready s).trunkTx = some { octets := l, source := .notice } →
       exec .trunkTransmissionCompletion s = .next { ready s with
         trunkTx := none
         holdoff := if (ready s).settings.holdoff = 0 then none else some (.left (ready s).settings.holdoff) })) ∧
  (∀ s : State, s.phase = .running → (settle s).holdoff = some .expired →
     exec .holdoffExpiry s = .next { settle s with holdoff := none })

/-! ### Ticks, boundaries and expiries (R14, R17, R67 to R77, R108 to R121, R150) -/

/-- R14, R15, R17, R74, R76: one millisecond tick. Two things of it are the model's choice (log 3): what is still due
from earlier ticks is taken first (`catchUp`), and a time at its expiry becomes `.expired` and waits for the row that
takes it, where R14 accepts a presence change at the sample itself. A third (log 22): the tick's sample, refill, silence
count and countdowns come before any expiry of that tick. -/
def Obligations.MillisecondTickAdvances : Prop :=
  (tickCountdown (.left 1) = .expired ∧ ∀ n, 1 < n → tickCountdown (.left n) = .left (n - 1)) ∧
  (∀ (s : State) (pres : BitVec 16), s.phase = .running →
    ∃ t, exec (.millisecondTick pres) s = .next t ∧
      let c := catchUp s
      t = { c with
        timebase := c.timebase + 1, boundaryDue := decide ((c.timebase + 1) % 1000 = 0), sampled := true
        holdoff := c.holdoff.map tickCountdown, pins := { c.pins with pres := pres }, drops := t.drops } ∧
      ∀ k, let d := c.drop k
        let d' := t.drop k
        let sample : Level := if pres.getLsbD k.val then .present else .absent
        d' = { d with
          level := d'.level, candidate := d'.candidate, credit := d'.credit, silence := d'.silence
          monitors := d'.monitors } ∧
        d'.level = (if c.sampled then d.level else sample) ∧
        d'.candidate = (if c.sampled = false ∨ sample = d.level then none
          else match d.candidate with
            | none => some { target := sample, remaining := .left c.settings.debounce }
            | some a => some { target := a.target, remaining := tickCountdown a.remaining }) ∧
        d'.credit = (if d.credit < (c.policyOf k).depth then
          min (c.policyOf k).depth (d.credit + (c.policyOf k).refill) else d.credit) ∧
        d'.silence = (if d.admission = .vacant then d.silence else min 60000 (d.silence + 1)) ∧
        ∀ m, d'.mon m = { d.mon m with timer := (d.mon m).timer.map tickCountdown })

/-- R14, R118, R121: the acceptance of level `lv`, and the release by replacement. -/
def Obligations.PresenceChangeAccepted : Prop :=
  ∀ (k : DropNo) (lv : Level) (s : State), s.phase = .running →
    ((settle s).drop k).candidate = some { target := lv, remaining := .expired } →
    let r := settle s
    let accepted := raiseDrop k .presence (r.modDrop k fun d => { d with level := lv, candidate := none })
    ((r.drop k).admission ≠ .latched → exec (.presenceChangeAccepted k) s = .next accepted) ∧
    ((r.drop k).admission = .latched → lv = .absent →
      exec (.presenceChangeAccepted k) s =
        .next (accepted.modDrop k fun d => { d with absenceSeen := true })) ∧
    ((r.drop k).admission = .latched → lv = .present →
      exec (.presenceChangeAccepted k) s =
        .next (if (r.drop k).absenceSeen = true ∧ (r.policyOf k).replacementRelease = true then release k accepted
          else accepted))

/-- R75, R67, R68: the credit has reached the depth, and the RATE condition becomes false. R77, R66, R69: the silence
count has reached the limit, and the SIL condition becomes true. -/
def Obligations.TickConditionsTaken : Prop :=
  (∀ (k : DropNo) (s : State), s.phase = .running → (settle s).rateFullDue k = true →
     ∃ t, exec (.rateCreditFull k) s = .next t ∧ OnlyDrop k (settle s) t ∧
       let r := settle s
       let p := (r.policyOf k).rate
       let x := (r.drop k).mon .rate
       t.drop k = { (r.drop k).setMon .rate (if p.enable then afterFalse p x else { x with condition := false }) with
         flags := (t.drop k).flags } ∧
       (t.drop k).flag (.cleared .rate) = ((r.drop k).flag (.cleared .rate) || p.enable && clearedByFalse p x) ∧
       ∀ f, f ≠ .cleared .rate → (t.drop k).flag f = (r.drop k).flag f) ∧
  (∀ (k : DropNo) (s : State), s.phase = .running → (settle s).silenceDue k = true →
     let r := settle s
     let p := (r.policyOf k).sil
     let x := (r.drop k).mon .sil
     let true' := r.modDrop k fun d => d.setMon .sil { x with condition := true }
     ((p.enable = false ∨ x.state = .alert ∨ x.state = .tripped) →
       exec (.silenceLimitReached k) s = .next true') ∧
     (p.enable = true → x.state = .clear → 0 < p.tripDelay →
       exec (.silenceLimitReached k) s = .next (raiseDrop k (.alert .sil) (r.modDrop k fun d =>
         d.setMon .sil { state := .alert, condition := true, timer := some (.left p.tripDelay) }))) ∧
     (p.enable = true → x.state = .clear → p.tripDelay = 0 →
       exec (.silenceLimitReached k) s = .next (closeGates r (trip k .sil true'))) ∧
     (p.enable = true → x.state = .recovering →
       exec (.silenceLimitReached k) s = .next (r.modDrop k fun d =>
         d.setMon .sil { state := .tripped, condition := true, timer := none })))

/-- R67, R70: the expiry of a delay timer trips its monitor, and the gates it closes purge their queues. R69: the expiry
of a recovery timer clears its monitor and raises CLEARED; no queue is purged. -/
def Obligations.MonitorTimersExpire : Prop :=
  (∀ (k : DropNo) (m : Monitor) (s : State), s.phase = .running →
     (((settle s).drop k).mon m).state = .alert → (((settle s).drop k).mon m).timer = some .expired →
     ∃ t, exec (.delayTimerExpiry k m) s = .next t ∧ t = closeGates (settle s) (trip k m (settle s)) ∧
       OnlyDrop k (settle s) t ∧ QueuesPurged k (settle s) t ∧
       (t.drop k).mon m = { (((settle s).drop k).mon m) with state := .tripped, timer := none } ∧
       (∀ n, n ≠ m → (t.drop k).mon n = ((settle s).drop k).mon n) ∧
       (t.drop k).flag (.trip m) = true ∧ (t.drop k).count .trips = ((settle s).drop k).count .trips + 1) ∧
  (∀ (k : DropNo) (m : Monitor) (s : State), s.phase = .running →
     (((settle s).drop k).mon m).state = .recovering → (((settle s).drop k).mon m).timer = some .expired →
     exec (.recoveryTimerExpiry k m) s = .next (raiseDrop k (.cleared m) ((settle s).modDrop k fun d =>
       d.setMon m { d.mon m with state := .clear, timer := none })))

/-- R70, R113 to R116: the effects of a trip, also as `afterTrip` gives them, by which the statements on arrivals and policy
changes speak of them. -/
def Obligations.TripEffects : Prop :=
  ∀ (k : DropNo) (m : Monitor) (s : State),
    let d := s.drop k
    let d' := (trip k m s).drop k
    let p := s.policyOf k
    let advance := (p.mon m).latch
    let latches : Prop := advance = true ∧ (d.admission = .probation ∨ d.admission = .admitted) ∧
      0 < p.latchLimit ∧ p.latchLimit ≤ min 15 (d.repeatCount + 1)
    OnlyDrop k s (trip k m s) ∧ TripsCounted p [m] d d' ∧ ProtectionKept (afterTrip p m d) d' ∧
    d'.mon m = { d.mon m with state := .tripped, timer := none } ∧ (∀ n, n ≠ m → d'.mon n = d.mon n) ∧
    d'.flag (.trip m) = true ∧ d'.count .trips = d.count .trips + 1 ∧
    (∀ c, c ≠ .trips → d'.count c = d.count c) ∧
    (∀ f, f ≠ .trip m → f ≠ .latch → f ≠ .wrap → d'.flag f = d.flag f) ∧
    d'.repeatCount = (if advance then min 15 (d.repeatCount + 1) else d.repeatCount) ∧
    d'.decay = (if advance then some (.left p.decayInterval) else d.decay) ∧
    d'.runCount = (if d.admission = .probation then 0 else d.runCount) ∧
    (latches → d'.admission = .latched ∧ d'.flag .latch = true ∧
      d'.latchTimer = (if p.latchHold = 0 then none else some (.left p.latchHold)) ∧
      d'.absenceSeen = decide (d.level = .absent)) ∧
    (¬ latches → d'.admission = d.admission ∧ d'.flag .latch = d.flag .latch ∧
      d'.latchTimer = d.latchTimer ∧ d'.absenceSeen = d.absenceSeen) ∧
    d' = { d with
      monitors := d'.monitors, flags := d'.flags, live := d'.live, repeatCount := d'.repeatCount
      decay := d'.decay, runCount := d'.runCount, admission := d'.admission, latchTimer := d'.latchTimer
      absenceSeen := d'.absenceSeen }

/-- R17, R108, R148, R168: a second boundary, taken once for each that the timebase reached. The model's choice: an expiry
or a probation limit that the boundary itself brings is taken after its snapshot copy (log 21), and an expiry after its
advance of elapsed and its countdowns (log 22). -/
def Obligations.SecondBoundaryTaken : Prop :=
  ∀ s : State, s.phase = .running → (settle s).boundaryDue = true →
    ∃ t, exec .secondBoundary s = .next t ∧
      let r := settle s
      t = { r with
        boundaryDue := false, lossTimer := r.lossTimer.map tickCountdown, drops := t.drops
        snapDevice := if r.settings.snapshot then r.liveDevice else r.snapDevice
        liveDevice := if r.settings.snapshot then Vector.replicate 6 0 else r.liveDevice } ∧
      ∀ k, let d := r.drop k
        t.drop k = { d with
          decay := d.decay.map tickCountdown, latchTimer := d.latchTimer.map tickCountdown
          elapsed := if d.admission = .probation ∧ d.level = .present ∧ d.elapsed < 3600 then d.elapsed + 1
            else d.elapsed
          snap := if r.settings.snapshot then d.live else d.snap
          live := if r.settings.snapshot then Vector.replicate 10 0 else d.live }

/-- R111, R51: the drop whose elapsed reached the probation limit is BARRED; an open downstream gate purges. -/
def Obligations.ProbationLimitBars : Prop :=
  ∀ (k : DropNo) (s : State), s.phase = .running → (s.drop k).admission = .probation →
    0 < (s.policyOf k).probationLimit → (s.policyOf k).probationLimit ≤ (s.drop k).elapsed →
    ∃ t, exec (.probationLimitReached k) s = .next t ∧ OnlyDrop k s t ∧
      (t.drop k).admission = .barred ∧ (t.drop k).flag .barred = true ∧
      t.upGate k = false ∧ t.downGate k = false ∧ (t.drop k).upQueue = (s.drop k).upQueue ∧
      (t.drop k).downQueue = (if s.downGate k then [] else (s.drop k).downQueue) ∧
      (t.drop k).count .gatedDown = (s.drop k).count .gatedDown +
        BitVec.ofNat 16 (if s.downGate k then (s.drop k).downQueue.length else 0) ∧
      (∀ c, c ≠ .gatedDown → (t.drop k).count c = (s.drop k).count c) ∧
      (∀ f, f ≠ .barred → f ≠ .wrap → (t.drop k).flag f = (s.drop k).flag f) ∧
      t.drop k = { s.drop k with
        admission := .barred, downQueue := (t.drop k).downQueue, flags := (t.drop k).flags
        live := (t.drop k).live }

/-- R114: the four results of a decay expiry. -/
def Obligations.DecayTimerExpires : Prop :=
  ∀ (k : DropNo) (s : State), s.phase = .running → ((settle s).drop k).decay = some .expired →
    let d := (settle s).drop k
    let again : Timer := some (.left ((settle s).policyOf k).decayInterval)
    let after : DropState → Prop := fun d' =>
      exec (.decayTimerExpiry k) s = .next ((settle s).modDrop k fun _ => d')
    let closing : Prop := ∃ m, (d.mon m).state = .tripped ∨ (d.mon m).state = .recovering
    (d.admission = .latched → after { d with decay := none }) ∧
    (d.admission ≠ .latched → closing → after { d with decay := again }) ∧
    (d.admission ≠ .latched → ¬ closing → 1 < d.repeatCount →
      after { d with repeatCount := d.repeatCount - 1, decay := again }) ∧
    (d.admission ≠ .latched → ¬ closing → d.repeatCount ≤ 1 → after { d with repeatCount := 0, decay := none })

/-- R120: the expiry of the latch hold timer releases a LATCHED drop. R82, R105, R119 to R123: a release puts the drop
into PROBATION with its context reset and raises RELEASE. -/
def Obligations.LatchHoldReleases : Prop :=
  (∀ (k : DropNo) (s : State), s.phase = .running → ((settle s).drop k).latchTimer = some .expired →
     ((settle s).drop k).admission = .latched →
     exec (.latchHoldExpiry k) s = .next (release k (settle s))) ∧
  (∀ (k : DropNo) (s : State),
     let d := s.drop k
     let t := release k s
     OnlyDrop k s t ∧ (t.drop k).flag .release = true ∧
     (∀ f, f ≠ .release → (t.drop k).flag f = d.flag f) ∧
     t.drop k = { d with
       admission := .probation
       monitors := Vector.replicate 4 { state := .clear, condition := false, timer := none }
       errWindow := [], credit := (s.policyOf k).depth, silence := 0, history := [], accepted := none
       repeatCount := 0, decay := none, latchTimer := none, absenceSeen := false, injection := 0
       runCount := 0, elapsed := 0, flags := (t.drop k).flags } ∧
     t.upGate k = false ∧ t.downGate k = (!d.downHold && decide (s.fallback ≠ some .isolate)))

/-- R150 to R152: the expiry of the loss timer enters FALLBACK with the option of the Settings Record. The model's choice
(log 22): what the tick and the second boundary of the expiry do, with the RATE and SIL conditions that the tick changes,
and a probation limit reached there, come first and under the old policy. -/
def Obligations.ManagementLossExpires : Prop :=
  ∀ s : State, s.phase = .running → (ready s).lossTimer = some .expired → (ready s).fallback = none →
    let r := ready s
    let entered := raiseDevice .fallbackEnter
      { r with fallback := some r.settings.fallbackOption, lossTimer := none }
    (r.settings.fallbackOption = .report → exec .managementLossExpiry s = .next entered) ∧
    (r.settings.fallbackOption = .isolate →
      ∃ t, exec .managementLossExpiry s = .next t ∧ OnlyDrops entered t ∧ ∀ k,
        t.upGate k = false ∧ t.downGate k = false ∧ PurgedFrom k r r t) ∧
    (r.settings.fallbackOption = .policy → ∃ t, exec .managementLossExpiry s = .next t ∧
      t = closeGates r (changePolicies r.settings.fallbackPolicy r.policyOf entered) ∧
      (∀ k, t.policyIndex k = r.settings.fallbackPolicy) ∧
      PolicyMoves r.settings.fallbackPolicy r.policyOf r entered t)

/-! ### Policy changes (R63, R83 to R88, R112) -/

/-- R83 to R85: the monitors after a policy change of a drop that is not VACANT: those it disables, those it
enables, and those enabled in both. Of the last, step 2 may change the condition, which moves the monitor to `z` (R66
to R69); step 3 then restarts the timer of `z`, or moves it at once where the new time is 0. -/
def Obligations.PolicyChangeMovesMonitors : Prop :=
  ∀ (k : DropNo) (old : Policy) (s : State) (m : Monitor), (s.drop k).admission ≠ .vacant →
    let p := (s.policyOf k).mon m
    let x := (s.drop k).mon m
    let d' := (policyChange k old s).drop k
    let y := d'.mon m
    OnlyDrop k s (policyChange k old s) ∧
    ((old.mon m).enable = true → p.enable = false →
      y.state = .clear ∧ y.timer = none ∧
      (x.state = .tripped ∨ x.state = .recovering → d'.flag (.cleared m) = true)) ∧
    ((old.mon m).enable = false → p.enable = true →
      (y.condition = false → y.state = .clear ∧ y.timer = none) ∧
      (y.condition = true → 0 < p.tripDelay →
        y.state = .alert ∧ y.timer = some (.left p.tripDelay) ∧ d'.flag (.alert m) = true) ∧
      (y.condition = true → p.tripDelay = 0 → y.state = .tripped ∧ y.timer = none ∧ d'.flag (.trip m) = true)) ∧
    ((old.mon m).enable = true → p.enable = true →
      let z := afterChange p true x y.condition
      (z.state = .clear ∨ z.state = .tripped → y = z) ∧
      (z.state = .alert → 0 < p.tripDelay → y = { z with timer := some (.left p.tripDelay) }) ∧
      (z.state = .alert → p.tripDelay = 0 → y = { z with state := .tripped, timer := none }) ∧
      (z.state = .recovering → 0 < p.recovery → y = { z with timer := some (.left p.recovery) }) ∧
      (z.state = .recovering → p.recovery = 0 → y = { z with state := .clear, timer := none }) ∧
      (x.state = .clear → y.state = .alert → d'.flag (.alert m) = true) ∧
      (x.state = .clear ∨ x.state = .alert → y.state = .tripped → d'.flag (.trip m) = true) ∧
      (x.state = .tripped ∨ x.state = .recovering → y.state = .clear → d'.flag (.cleared m) = true)) ∧
    ((old.mon m).enable = false → p.enable = false → x.state = .clear →
      y = { x with condition := y.condition })

/-- R86 to R88, R92: the windows, counts and conditions after a policy change of a drop that is not VACANT. -/
def Obligations.PolicyChangePutsParameters : Prop :=
  ∀ (k : DropNo) (old : Policy) (s : State), (s.drop k).admission ≠ .vacant →
    let new := s.policyOf k
    let d := s.drop k
    let d' := (policyChange k old s).drop k
    d'.errWindow = (if old.window = new.window then d.errWindow else []) ∧
    (d'.mon .err).condition =
      (if old.window ≠ new.window then false
      else if old.tripCount = new.tripCount ∧ old.releaseCount = new.releaseCount then (d.mon .err).condition
      else errJudged new (faultyMarks d.errWindow) (d.mon .err).condition) ∧
    d'.credit = min d.credit new.depth ∧
    (d'.mon .rate).condition = (if new.depth ≤ d.credit then false else (d.mon .rate).condition) ∧
    (d'.mon .sil).condition = (if old.silenceLimit = new.silenceLimit then (d.mon .sil).condition
      else decide (new.silenceLimit ≤ d.silence)) ∧
    (d'.mon .stat).condition = (d.mon .stat).condition ∧ d'.silence = d.silence ∧
    d'.history = (if old.persistence = new.persistence ∧ old.acceptance = new.acceptance then d.history else []) ∧
    d'.accepted = d.accepted ∧ d'.injection = d.injection ∧ d'.lastFaulty = d.lastFaulty ∧
    d'.upQueue = d.upQueue ∧ d'.downQueue = d.downQueue ∧ PortKept d d'

/-- R63: a policy change of a VACANT drop sets its credit to the new depth and does nothing else. R112, R114, R117,
R113 to R117, R120: the admission part of a policy change of a drop that is not VACANT. The trips inside the change come
before this part, and only they advance the repeat counter, set a run count to 0 or latch the drop; their monitors are
those of `tripsAtChange`, where every monitor that the old record disables is CLEAR, as R64 has it (MonitorLaw). -/
def Obligations.PolicyChangeActsOnAdmission : Prop :=
  (∀ (k : DropNo) (old : Policy) (s : State), (s.drop k).admission = .vacant →
     policyChange k old s = s.modDrop k fun d => { d with credit := (s.policyOf k).depth }) ∧
  (∀ (k : DropNo) (old : Policy) (s : State), (s.drop k).admission ≠ .vacant →
     let new := s.policyOf k
     let d := s.drop k
     let d' := (policyChange k old s).drop k
     (d.admission = .probation → d'.admission = .latched ∨
       d'.admission = (if new.goodRun ≤ d'.runCount then .admitted
         else if 0 < new.probationLimit ∧ new.probationLimit ≤ d.elapsed then .barred else .probation)) ∧
     (d.admission = .admitted → d'.admission = .latched ∨ d'.admission = .admitted) ∧
     (d.admission = .latched ∨ d.admission = .barred → d'.admission = d.admission) ∧
     (d.admission ≠ .probation → d'.runCount = d.runCount) ∧
     (old.decayInterval ≠ new.decayInterval → d.decay ≠ none → d'.decay = some (.left new.decayInterval)) ∧
     (d.admission = .latched → d'.latchTimer =
       if old.latchHold = new.latchHold then d.latchTimer
       else if new.latchHold = 0 then none else some (.left new.latchHold)) ∧
     (∀ c, c ≠ .trips → c ≠ .gatedUp → c ≠ .gatedDown → d'.count c = d.count c) ∧
     d'.count .gatedUp = d.count .gatedUp ∧ d'.count .gatedDown = d.count .gatedDown ∧
     ((∀ m, (old.mon m).enable = false → (d.mon m).state = .clear) →
       let trips := allMonitors.filter fun m => tripsAtChange old new d m (d'.mon m).condition
       let e := afterTrips new trips d
       TripsCounted new trips d d' ∧ d'.repeatCount = e.repeatCount ∧ d'.absenceSeen = e.absenceSeen ∧
       d'.runCount = e.runCount ∧
       d'.decay = (if old.decayInterval ≠ new.decayInterval ∧ e.decay ≠ none then some (.left new.decayInterval)
         else e.decay) ∧
       d'.latchTimer = (if e.admission = .latched ∧ old.latchHold ≠ new.latchHold then
         (if new.latchHold = 0 then none else some (.left new.latchHold)) else e.latchTimer) ∧
       d'.admission = (if e.admission ≠ .probation then e.admission
         else if new.goodRun ≤ e.runCount then .admitted
         else if 0 < new.probationLimit ∧ new.probationLimit ≤ d.elapsed then .barred else .probation) ∧
       d'.flag .admitted = (d.flag .admitted || decide (e.admission ≠ d'.admission ∧ d'.admission = .admitted)) ∧
       d'.flag .barred = (d.flag .barred || decide (e.admission ≠ d'.admission ∧ d'.admission = .barred)) ∧
       (d'.count .trips = d.count .trips →
         d'.runCount = d.runCount ∧ d'.repeatCount = d.repeatCount ∧ d'.absenceSeen = d.absenceSeen ∧
         (d.admission ≠ .latched → d'.admission ≠ .latched ∧ d'.latchTimer = d.latchTimer) ∧
         (old.decayInterval = new.decayInterval → d'.decay = d.decay))))

/-- R104, R106, R107: only the events of the table of R104, and the COMMAND reset, change the admission state of a
drop, each from the states and with the flag that the table gives. -/
def Obligations.AdmissionTransitions : Prop :=
  ∀ (c : Instr) (s t : State) (k : DropNo), isResetRow c = false → s.phase = .running → exec c s = .next t →
    let r := foundBy c s
    let a := (r.drop k).admission
    let b := (t.drop k).admission
    a ≠ b →
    (b = .vacant → commandReset c r = true ∨ (c = .applyMap ∧ r.active.size k ≠ 0 ∧ t.active.size k = 0)) ∧
    (b = .probation → commandReset c r = true ∨
      (c = .applyMap ∧ t.active.size k ≠ 0 ∧
        (r.active.size k ≠ t.active.size k ∨ r.active.base k ≠ t.active.base k)) ∨
      ((t.drop k).flag .release = true ∧
        ((a = .latched ∧ c ∈ [.recoverLatch, .latchHoldExpiry k, .presenceChangeAccepted k]) ∨
          (a = .barred ∧ c = .recoverBarred)))) ∧
    (b = .admitted → a = .probation ∧ (t.drop k).flag .admitted = true ∧
      (takesHeartbeat k c = true ∨ changesPolicies c = true)) ∧
    (b = .barred → a = .probation ∧ (t.drop k).flag .barred = true ∧
      (c = .probationLimitReached k ∨ changesPolicies c = true)) ∧
    (b = .latched → (a = .probation ∨ a = .admitted) ∧ (t.drop k).flag .latch = true ∧
      (takesHeartbeat k c = true ∨ tripsMonitor k c = true ∨ changesPolicies c = true))

/-! ### Takings of commands (R129 to R133) -/

/-- R131, R132: a command that is refused, with whatever status, changes nothing but the counts of its taking, and
is answered with its status; it carries results with BAD_MAP alone. -/
def Obligations.RefusedCommandsChangeNothing : Prop :=
  ∀ (i : Instr) (row : CommandRow) (s : State) (c : Command) (rest : List Command), (i, row) ∈ takingRows →
    Takeable row s c rest →
    let reply := carryOut c.payload (counted s rest)
    reply.status ≠ .ok →
    (reply.status ≠ .badMap → reply.results = []) ∧
    exec i s = .next (answer (ownOf s) c reply.status reply.results
      (countDevice .commandErrors (counted s rest)))

/-- R131: a command with too few or too many parameter octets answers BAD_LENGTH; a payload below two octets answers
BAD_LENGTH and a code outside the command set UNKNOWN_COMMAND. Check 4, the fields in their order (R24, R25, R60,
R97, R136 to R143): a drop, entry, policy or monitor number or a selector above its range answers BAD_INDEX, before any
later field is looked at, and any other field outside its range or set BAD_VALUE. R27: the first check of the staging
map that fails answers BAD_MAP with its reason. The model's choice (log 5) is which row takes a malformed command: a
payload below two octets goes to UNKNOWN_COMMAND, and a RECOVER or INJECT whose target octet is missing or outside its
set to RECOVER_LATCH or INJECT_ERR. -/
def Obligations.CommandChecksRefuse : Prop :=
  (∀ (i : Instr) (row : CommandRow) (s : State) (c : Command) (rest : List Command), (i, row) ∈ takingRows →
     row ≠ .unknown → Takeable row s c rest → c.payload.length ≠ 2 + paramCount row →
     exec i s = .next (answer (ownOf s) c .badLength [] (countDevice .commandErrors (counted s rest)))) ∧
  (∀ (s : State) (c : Command) (rest : List Command), Takeable .unknown s c rest →
     exec .unknownCommand s = .next (answer (ownOf s) c
       (if c.payload.length < 2 then .badLength else .unknownCommand) []
       (countDevice .commandErrors (counted s rest)))) ∧
  (∀ (i : Instr) (row : CommandRow) (s : State) (c : Command) (rest : List Command), (i, row) ∈ takingRows →
     row ∈ [.writeMapEntry, .readDrop, .hold, .recoverLatch, .recoverBarred, .recoverMonitor, .injectErr,
       .injectHeartbeat] →
     FailsWith .badIndex i row s c rest (16 ≤ (octetAt c.payload 2).toNat)) ∧
  (∀ (s : State) (c : Command) (rest : List Command), let n : Nat → Nat := fun i => (octetAt c.payload i).toNat
     FailsWith .badValue .readMap .readMap s c rest (1 < n 2) ∧
     FailsWith .badIndex .readMap .readMap s c rest (n 2 ≤ 1 ∧ 16 < n 3) ∧
     FailsWith .badValue .writeMapHeader .writeMapHeader s c rest
       (wordAt c.payload 2 = 0x0000 ∨ wordAt c.payload 2 = 0xFFFF) ∧
     FailsWith .badValue .writeMapEntry .writeMapEntry s c rest
       (n 2 < 16 ∧ (n 3 = 1 ∨ 12 < n 3 ∨ 7 < n 4)) ∧
     FailsWith .badValue .writeSettings .writeSettings s c rest (BadSettings (c.payload.drop 2)) ∧
     FailsWith .badIndex .readPolicy .readPolicy s c rest (7 < n 2) ∧
     FailsWith .badIndex .writePolicy .writePolicy s c rest (7 < n 2) ∧
     FailsWith .badValue .writePolicy .writePolicy s c rest (n 2 ≤ 7 ∧ BadPolicy (c.payload.drop 3)) ∧
     FailsWith .badIndex .readClass .readClass s c rest (15 < n 2) ∧
     FailsWith .badIndex .writeClass .writeClass s c rest (15 < n 2) ∧
     FailsWith .badValue .writeClass .writeClass s c rest
       (n 2 ≤ 15 ∧ (1 < n 3 ∨ n 5 < n 4 ∨ n 6 = 0 ∨ 3 < n 6)) ∧
     FailsWith .badValue .hold .hold s c rest (n 2 < 16 ∧ (2 < n 3 ∨ 2 < n 4)) ∧
     FailsWith .badValue .recoverLatch .recoverLatch s c rest (n 2 < 16 ∧ 2 < n 3) ∧
     FailsWith .badIndex .recoverMonitor .recoverMonitor s c rest (n 2 < 16 ∧ 3 < n 4) ∧
     FailsWith .badValue .injectErr .injectErr s c rest (n 2 < 16 ∧ (1 < n 3 ∨ n 4 = 0 ∨ 16 < n 4)) ∧
     FailsWith .badIndex .readEvents .readEvents s c rest (16 < n 2) ∧
     FailsWith .badIndex .readCounters .readCounters s c rest (16 < n 2) ∧
     FailsWith .badValue .readCounters .readCounters s c rest (n 2 ≤ 16 ∧ 1 < n 3)) ∧
  (∀ (s : State) (c : Command) (rest : List Command), Takeable .applyMap s c rest → c.payload.length = 2 →
     let m := (settleLinks s).staging
     let refused : Byte → Prop := fun code =>
       exec .applyMap s = .next (answer (ownOf s) c .badMap [code] (countDevice .commandErrors (counted s rest)))
     let planeEnd : Prop := 0xFFFE < m.header.planeBase.toNat + m.total - 1
     let ownReserved : Prop := m.header.own = 0x0000 ∨ m.header.own = 0xFFFF
     let ownInRange : Prop := ∃ k, m.inRange k m.header.own = true
     let ctrlInvalid : Prop := m.header.controller = 0xFFFF ∨ m.header.controller = m.header.own ∨
       ∃ k, m.inRange k m.header.controller = true
     (planeEnd → refused 0x01) ∧ (¬ planeEnd → ownReserved → refused 0x02) ∧
     (¬ planeEnd → ¬ ownReserved → ownInRange → refused 0x03) ∧
     (¬ planeEnd → ¬ ownReserved → ¬ ownInRange → ctrlInvalid → refused 0x04))

/-- R26, R59, R97, R134, R136 to R139, R143, R170: the reads answer their results and change nothing else. READ_COUNTERS
counts its own COMMANDS first. -/
def Obligations.ReadsAnswerAndChangeNothing : Prop :=
  (∀ (s : State) (c : Command) (rest : List Command), c.payload.length = 2 →
     (Takeable .getInfo s c rest →
       exec .getInfo s = .next (answer (ownOf s) c .ok
         ([0x2E, 0x91, 0x10, 0x16, 0x03, (settleLinks s).lastCause.code,
           if (settleLinks s).fallback = none then 0x00 else 0x01] ++ octets16 (ownOf s)) (counted s rest))) ∧
     (Takeable .readSettings s c rest →
       exec .readSettings s = .next (answer (ownOf s) c .ok (encodeSettings (settleLinks s).settings)
         (counted s rest)))) ∧
  (∀ (s : State) (c : Command) (rest : List Command) (tag bank sel : Byte), Takeable .readMap s c rest →
     c.payload = [0x10, tag, bank, sel] → bank = 0x00 ∨ bank = 0x01 →
     let m := if bank = 0x01 then (settleLinks s).active else (settleLinks s).staging
     (sel = 0x10 → exec .readMap s = .next (answer (ownOf s) c .ok
       (octets16 m.header.planeBase ++ octets16 m.header.own ++ octets16 m.header.controller) (counted s rest))) ∧
     (∀ k : DropNo, sel.toNat = k.val → exec .readMap s = .next (answer (ownOf s) c .ok
       ([octet m.entries[k].sizeCode, octet m.entries[k].policy.val] ++
         (if bank = 0x01 then octets2 (m.base k) ++
           (if m.size k = 0 then [] else octets2 (m.base k + m.size k - 1)) else [])) (counted s rest)))) ∧
  (∀ (s : State) (c : Command) (rest : List Command) (tag : Byte),
     (∀ n : Fin 8, Takeable .readPolicy s c rest → c.payload = [0x20, tag, BitVec.ofNat 8 n.val] →
       exec .readPolicy s = .next (answer (ownOf s) c .ok (encodePolicy (settleLinks s).policies[n])
         (counted s rest))) ∧
     (∀ n : DropNo, Takeable .readClass s c rest → c.payload = [0x22, tag, BitVec.ofNat 8 n.val] →
       exec .readClass s = .next (answer (ownOf s) c .ok
         [if (settleLinks s).classes[n].valid then 1 else 0, (settleLinks s).classes[n].low,
           (settleLinks s).classes[n].high, (settleLinks s).classes[n].cls.code] (counted s rest)))) ∧
  (∀ (s : State) (c : Command) (rest : List Command) (tag : Byte) (k : DropNo), Takeable .readDrop s c rest →
     c.payload = [0x30, tag, BitVec.ofNat 8 k.val] →
     exec .readDrop s = .next (answer (ownOf s) c .ok (encodeDrop (settleLinks s) k) (counted s rest))) ∧
  (∀ (s : State) (c : Command) (rest : List Command) (tag sel bank : Byte), Takeable .readCounters s c rest →
     c.payload = [0x50, tag, sel, bank] → bank = 0x00 ∨ bank = 0x01 →
     (∀ k : DropNo, sel.toNat = k.val → exec .readCounters s = .next (answer (ownOf s) c .ok
       ((if bank = 0x01 then ((settleLinks s).drop k).snap else ((settleLinks s).drop k).live).toList.flatMap octets16)
       (counted s rest))) ∧
     (sel = 0x10 → exec .readCounters s = .next (answer (ownOf s) c .ok
       ((if bank = 0x01 then (settleLinks s).snapDevice else (counted s rest).liveDevice).toList.flatMap octets16)
       (counted s rest))))

/-- R24, R25: WRITE_MAP_HEADER and WRITE_MAP_ENTRY write the staging map alone. R97: WRITE_CLASS replaces the entry
whole and moves nothing else. R60, R63: WRITE_POLICY of an in-range record replaces it, with a policy change for each
drop governed by that index and for no other. -/
def Obligations.TablesAreWritten : Prop :=
  ((∀ (s : State) (c : Command) (rest : List Command), Takeable .writeMapHeader s c rest →
     c.payload.length = 8 → wordAt c.payload 2 ≠ 0x0000 → wordAt c.payload 2 ≠ 0xFFFF →
     exec .writeMapHeader s = .next (answer (ownOf s) c .ok [] { counted s rest with
       staging := { (settleLinks s).staging with
         header := { planeBase := wordAt c.payload 2, own := wordAt c.payload 4
                     controller := wordAt c.payload 6 } } })) ∧
   ∀ (s : State) (c : Command) (rest : List Command) (tag size : Byte) (k : DropNo) (pol : Fin 8),
     Takeable .writeMapEntry s c rest →
     c.payload = [0x12, tag, BitVec.ofNat 8 k.val, size, BitVec.ofNat 8 pol.val] →
     size.toNat = 0 ∨ (2 ≤ size.toNat ∧ size.toNat ≤ 12) →
     exec .writeMapEntry s = .next (answer (ownOf s) c .ok [] { counted s rest with
       staging := { (settleLinks s).staging with
         entries := (settleLinks s).staging.entries.set k { sizeCode := size.toNat, policy := pol } } })) ∧
  (∀ (s : State) (c : Command) (rest : List Command) (tag low high : Byte) (n : DropNo) (valid : Bool)
     (cls : StatusClass), Takeable .writeClass s c rest →
     c.payload = [0x23, tag, BitVec.ofNat 8 n.val, if valid then 0x01 else 0x00, low, high, cls.code] →
     low.toNat ≤ high.toNat →
     exec .writeClass s = .next (answer (ownOf s) c .ok [] { counted s rest with
       classes := (settleLinks s).classes.set n { valid := valid, low := low, high := high, cls := cls } })) ∧
  (∀ (s : State) (c : Command) (rest : List Command) (tag : Byte) (n : Fin 8) (new : Policy),
     Takeable .writePolicy s c rest → c.payload = 0x21 :: tag :: BitVec.ofNat 8 n.val :: encodePolicy new →
     new.inRange = true →
     ∃ t, exec .writePolicy s = .next t ∧
       t = closeGates (found s rest) (answer (ownOf s) c .ok [] (replacePolicy n new (counted s rest))) ∧
       t.policies = (settleLinks s).policies.set n new ∧
       ∀ k, ((settleLinks s).policyIndex k ≠ n → t.drop k = (settleLinks s).drop k) ∧
         ((settleLinks s).policyIndex k = n → PurgedFrom k (settleLinks s)
           (policyChange k (settleLinks s).policies[n]
             { counted s rest with policies := (settleLinks s).policies.set n new }) t))

/-- R28 to R35: a successful apply: the map, MAP_APPLIED, the vacated and re-ranged drops, the drops whose policy index
alone changes, the unchanged ones, notice-pending, and the staging map, which stays. -/
def Obligations.MapIsApplied : Prop :=
  ∀ (s : State) (c : Command) (rest : List Command), Takeable .applyMap s c rest → c.payload.length = 2 →
    mapReason (settleLinks s).staging = none →
    ∃ t, exec .applyMap s = .next t ∧
      let r := settleLinks s
      t = { answer (ownOf s) c .ok [] (counted s rest) with
        active := r.staging, deviceFlags := t.deviceFlags, noticePending := t.noticePending, drops := t.drops } ∧
      t.deviceFlag .mapApplied = true ∧
      (∀ f, f ≠ .mapApplied → t.deviceFlag f = (counted s rest).deviceFlag f) ∧
      NoticeAfterApply r (counted s rest) t ∧
      ∀ k, DropApplied k r { counted s rest with active := r.staging } t

/-- R136: WRITE_SETTINGS of an in-range record replaces it; a record equal to the one in force changes nothing, and each
changed field acts at its own block alone: the debounce on the candidates (R15), the timeout on the loss timer and on
FALLBACK (R149), the fallback policy on the drops while POLICY is in force (R152), mask and suspend on notice-pending
(R160); the holdoff timer runs on (R164). The model's choice (log 19): the candidates are all restarted, also one whose
acceptance is due. -/
def Obligations.SettingsAreWritten : Prop :=
  ∀ (s : State) (c : Command) (rest : List Command) (tag : Byte) (new : Settings),
    Takeable .writeSettings s c rest → c.payload = 0x03 :: tag :: encodeSettings new → new.inRange = true →
    ∃ t, exec .writeSettings s = .next t ∧
      t = closeGates (found s rest) (answer (ownOf s) c .ok [] (applySettings new (counted s rest))) ∧
      t.settings = new ∧ t.commandQueue = rest ∧
      let r := settleLinks s
      let old := r.settings
      (new = old → t = answer (ownOf s) c .ok [] (counted s rest)) ∧
      t.holdoff = r.holdoff ∧
      (∀ k, (t.drop k).candidate = if new.debounce = old.debounce then (r.drop k).candidate
        else (r.drop k).candidate.map fun a => { a with remaining := .left new.debounce }) ∧
      t.lossTimer = (if new.timeout = old.timeout then r.lossTimer
        else if r.fallback = none then (if new.timeout = 0 then none else some (.left new.timeout))
        else if new.timeout = 0 then none else r.lossTimer) ∧
      (endsFallback new r = true → t.fallback = none ∧ t.deviceFlag .fallbackExit = true) ∧
      (endsFallback new r = false →
        t.fallback = r.fallback ∧ t.deviceFlag .fallbackExit = r.deviceFlag .fallbackExit) ∧
      (∀ k, PolicyAfterSettings k r { counted s rest with settings := new } t) ∧
      NoticeAfterSettings r { counted s rest with settings := new } t

/-- Section 7.5, R161, R162: the codes of the fields (`FieldCodes`), the octets of READ_DROP, of READ_EVENTS and of a
NOTICE, and when one lists nothing. R96: the class that READ_DROP reports is that of the lowest-numbered valid entry
whose interval holds the code, OK without one. -/
def Obligations.ReportLayouts : Prop :=
  FieldCodes ∧
  (∀ (s : State) (k : DropNo), let d := s.drop k
     let l := encodeDrop s k
     l.length = 32 ∧ octetAt l 0 = d.admission.code ∧
     octetAt l 3 = (if d.upHold then 1 else 0) ∧ octetAt l 4 = (if d.downHold then 1 else 0) ∧
     octetAt l 5 = BitVec.ofNat 8 (s.policyIndex k).val ∧
     (∀ m, octetAt l (6 + (Monitor.idx m).val) = (d.mon m).state.code ∧
       octetAt l (10 + (Monitor.idx m).val) = if (d.mon m).condition then 1 else 0) ∧
     octetAt l 14 = BitVec.ofNat 8 (d.errWindow.count .faulty) ∧ octetAt l 15 = BitVec.ofNat 8 d.errWindow.length ∧
     wordAt l 16 = BitVec.ofNat 16 d.credit ∧
     octetAt l 18 = (if d.accepted.isSome then 1 else 0) ∧ octetAt l 19 = d.accepted.getD 0 ∧
     (d.accepted = none → octetAt l 20 = 0) ∧ (∀ a, d.accepted = some a → octetAt l 20 = (s.classOf a).code) ∧
     octetAt l 21 = BitVec.ofNat 8 d.history.length ∧ octetAt l 22 = BitVec.ofNat 8 d.repeatCount ∧
     octetAt l 23 = BitVec.ofNat 8 d.runCount ∧ wordAt l 24 = BitVec.ofNat 16 d.elapsed ∧
     octetAt l 26 = (if d.admission = .probation ∧ d.level = .absent then 1 else 0) ∧
     octetAt l 27 = (if d.level = .present then 1 else 0) ∧ octetAt l 28 = BitVec.ofNat 8 d.injection ∧
     octetAt l 29 = BitVec.ofNat 8 d.upQueue.length ∧ octetAt l 30 = BitVec.ofNat 8 d.downQueue.length ∧
     (d.lastFaulty = none → octetAt l 31 = 0) ∧ ∀ e, d.lastFaulty = some e → octetAt l 31 = e.code) ∧
  (∀ (s : State) (a : Byte),
     let holds : DropNo → Bool := fun e =>
       s.classes[e].valid && decide (s.classes[e].low.toNat ≤ a.toNat) && decide (a.toNat ≤ s.classes[e].high.toNat)
     (∀ e : DropNo, holds e = true → (∀ i, i < e → holds i = false) → s.classOf a = s.classes[e].cls) ∧
     ((∀ e, holds e = false) → s.classOf a = .ok)) ∧
  ((∀ d : DropState, let l := encodeDropFlags d
     l.length = 11 ∧ (∀ m, (octetAt l 0).getLsbD (Monitor.idx m).val = d.flag (.alert m) ∧
       (octetAt l 1).getLsbD (Monitor.idx m).val = d.flag (.trip m) ∧
       (octetAt l 2).getLsbD (Monitor.idx m).val = d.flag (.cleared m)) ∧
     (octetAt l 0).toNat < 16 ∧ (octetAt l 1).toNat < 16 ∧ (octetAt l 2).toNat < 16 ∧
     l.drop 3 = [d.flag .latch, d.flag .release, d.flag .admitted, d.flag .barred, d.flag .status,
       d.flag .presence, d.flag .wrap, d.flag .overflow].map fun b => if b then 1 else 0) ∧
   ∀ s : State, encodeDeviceFlags s = [s.deviceFlag .fallbackEnter, s.deviceFlag .fallbackExit,
     s.deviceFlag .mapApplied, s.deviceFlag .mgmtOverrun, s.deviceFlag .deviceWrap].map
       fun b => if b then 1 else 0) ∧
  (∀ s : State, (noticePayload s).length = 4 ∧
     (∀ k : DropNo, (wordAt (noticePayload s) 0).getLsbD k.val = true ↔
       ∃ f, (s.drop k).flag f = true ∧ s.settings.noticeMask.getLsbD f.kind = false) ∧
     (∀ f : DeviceFlag, (octetAt (noticePayload s) 2).getLsbD (DeviceFlag.idx f).val = true ↔
       s.deviceFlag f = true ∧ s.settings.noticeMask.getLsbD f.kind = false) ∧
     (octetAt (noticePayload s) 2).toNat < 32 ∧
     octetAt (noticePayload s) 3 = (if s.fallback = none then 0 else 1) ∧
     (s.listsSomething = false ↔ wordAt (noticePayload s) 0 = 0 ∧ octetAt (noticePayload s) 2 = 0))

/-- R124, R140: HOLD on a drop that is not VACANT. Each request keeps, sets or clears its hold; a gate it closes
purges its queue. On a VACANT drop it answers NOT_APPLICABLE. -/
def Obligations.HoldIsTaken : Prop :=
  ∀ (s : State) (c : Command) (rest : List Command) (tag up down : Byte) (k : DropNo),
    Takeable .hold s c rest → c.payload = [0x31, tag, BitVec.ofNat 8 k.val, up, down] →
    up.toNat ≤ 2 → down.toNat ≤ 2 →
    let d := (settleLinks s).drop k
    let asked : Byte → Bool → Bool := fun q h => if q = 0x01 then true else if q = 0x02 then false else h
    (d.admission = .vacant → exec .hold s =
      .next (answer (ownOf s) c .notApplicable [] (countDevice .commandErrors (counted s rest)))) ∧
    (d.admission ≠ .vacant → ∃ t, exec .hold s = .next t ∧
      t = closeGates (found s rest) (answer (ownOf s) c .ok [] ((counted s rest).modDrop k fun d =>
        { d with upHold := asked up d.upHold, downHold := asked down d.downHold })) ∧
      (t.drop k).upHold = asked up d.upHold ∧ (t.drop k).downHold = asked down d.downHold ∧
      QueuesPurged k (settleLinks s) t ∧ ∀ j, j ≠ k → t.drop j = (settleLinks s).drop j)

/-- R119, R123, R140: RECOVER LATCH and RECOVER BARRED release a drop in their own state, and answer NOT_APPLICABLE in
any other. R79: RECOVER MONITOR starts the recovery of a TRIPPED monitor whose condition is false, or clears it when
its recovery time is 0; otherwise it answers NOT_APPLICABLE. -/
def Obligations.RecoverIsTaken : Prop :=
  (∀ (s : State) (c : Command) (rest : List Command) (tag any : Byte) (k : DropNo),
     let na := answer (ownOf s) c .notApplicable [] (countDevice .commandErrors (counted s rest))
     let ok := answer (ownOf s) c .ok [] (release k (counted s rest))
     (Takeable .recoverLatch s c rest → c.payload = [0x32, tag, BitVec.ofNat 8 k.val, 0x00, any] →
       exec .recoverLatch s = .next (if ((settleLinks s).drop k).admission = .latched then ok else na)) ∧
     (Takeable .recoverBarred s c rest → c.payload = [0x32, tag, BitVec.ofNat 8 k.val, 0x01, any] →
       exec .recoverBarred s = .next (if ((settleLinks s).drop k).admission = .barred then ok else na))) ∧
  (∀ (s : State) (c : Command) (rest : List Command) (tag : Byte) (k : DropNo) (m : Monitor),
     Takeable .recoverMonitor s c rest →
     c.payload = [0x32, tag, BitVec.ofNat 8 k.val, 0x02, BitVec.ofNat 8 (Monitor.idx m).val] →
     let x := ((settleLinks s).drop k).mon m
     let time := (((settleLinks s).policyOf k).mon m).recovery
     (x.state = .tripped → x.condition = false → 0 < time →
       exec .recoverMonitor s = .next (answer (ownOf s) c .ok [] ((counted s rest).modDrop k fun d =>
         d.setMon m { state := .recovering, condition := false, timer := some (.left time) }))) ∧
     (x.state = .tripped → x.condition = false → time = 0 →
       exec .recoverMonitor s = .next (answer (ownOf s) c .ok [] (raiseDrop k (.cleared m)
         ((counted s rest).modDrop k fun d =>
           d.setMon m { state := .clear, condition := false, timer := none })))) ∧
     (x.state ≠ .tripped ∨ x.condition = true →
       exec .recoverMonitor s =
         .next (answer (ownOf s) c .notApplicable [] (countDevice .commandErrors (counted s rest)))))

/-- R141, R172: INJECT ERR adds its count, limited at 16, and changes nothing else; R101: a VACANT drop refuses both
targets. -/
def Obligations.InjectErrAddsCount : Prop :=
  ∀ (s : State) (c : Command) (rest : List Command) (tag n : Byte) (k : DropNo),
    Takeable .injectErr s c rest → c.payload = [0x33, tag, BitVec.ofNat 8 k.val, 0x00, n] →
    let refused : Status → Prop := fun st =>
      exec .injectErr s = .next (answer (ownOf s) c st [] (countDevice .commandErrors (counted s rest)))
    (n.toNat = 0 ∨ 16 < n.toNat → refused .badValue) ∧
    (1 ≤ n.toNat → n.toNat ≤ 16 → ((settleLinks s).drop k).admission = .vacant → refused .notApplicable) ∧
    (1 ≤ n.toNat → n.toNat ≤ 16 → ((settleLinks s).drop k).admission ≠ .vacant →
      exec .injectErr s = .next (answer (ownOf s) c .ok [] ((counted s rest).modDrop k fun d =>
        { d with injection := min 16 (d.injection + n.toNat) })))

/-- R89, R101: INJECT HEARTBEAT is the taking of a heartbeat with its code: no ERR mark, no injection spent. The model's
choice (log 20) is that of HeartbeatArrival. -/
def Obligations.InjectHeartbeatIsTaken : Prop :=
  ∀ (s : State) (c : Command) (rest : List Command) (tag code : Byte) (k : DropNo),
    Takeable .injectHeartbeat s c rest → c.payload = [0x33, tag, BitVec.ofNat 8 k.val, 0x01, code] →
    let d := (settleLinks s).drop k
    let p := (settleLinks s).policyOf k
    (d.admission = .vacant → exec .injectHeartbeat s =
      .next (answer (ownOf s) c .notApplicable [] (countDevice .commandErrors (counted s rest)))) ∧
    (d.admission ≠ .vacant → ∃ t, exec .injectHeartbeat s = .next t ∧
      t = closeGates (found s rest) (answer (ownOf s) c .ok [] (takeHeartbeat k code (counted s rest))) ∧
      (∀ j, j ≠ k → t.drop j = (settleLinks s).drop j) ∧ QueuesPurged k (settleLinks s) t ∧
      let d' := t.drop k
      d'.history = keepLast p.persistence (d.history ++ [code]) ∧
      d'.accepted =
        (if d.accepted ≠ some code ∧ p.acceptance ≤ d'.history.count code then some code else d.accepted) ∧
      (d'.mon .stat).condition = d'.accepted.any (fun a => (settleLinks s).classOf a == .fault) ∧
      MonitorMoved .stat p ((settleLinks s).runs k .stat) d d'
        (d'.accepted.any fun a => (settleLinks s).classOf a == .fault) ∧
      d'.silence = 0 ∧ (d'.mon .sil).condition = false ∧
      MonitorMoved .sil p ((settleLinks s).runs k .sil) d d' false ∧
      (let trips := trippedBy .stat p ((settleLinks s).runs k .stat) d
         (d'.accepted.any fun a => (settleLinks s).classOf a == .fault)
       let e := afterTrips p trips d
       TripsCounted p trips d d' ∧ RepeatKept e d' ∧ RunJudged p e d'
         (d'.accepted.all (fun a => (settleLinks s).classOf a == .ok) && !d'.anyClosing)) ∧
      d'.mon .err = d.mon .err ∧ d'.mon .rate = d.mon .rate ∧
      d'.count .heartbeats = d.count .heartbeats + 1 ∧ d'.errWindow = d.errWindow ∧
      d'.injection = d.injection ∧ d'.credit = d.credit ∧ d'.lastFaulty = d.lastFaulty ∧ PortKept d d')

/-- R142, R158: READ_EVENTS answers the flags of one entry and clears them, and no other; notice-pending and the holdoff
stay. R142, R143, R158, R169: ACK_ALL_EVENTS clears every flag and nothing else; CLEAR_COUNTERS sets every counter of
both banks to 0 and changes nothing else. The model's choice (log 17): every taking is counted COMMANDS before its effect,
as R143 and R169 say of READ_COUNTERS and CLEAR_COUNTERS alone, so that a DEVICE_WRAP of that very count is among the
flags that READ_EVENTS answers and ACK_ALL_EVENTS clears. -/
def Obligations.EventsAndCountersAreCleared : Prop :=
  (∀ (s : State) (c : Command) (rest : List Command) (tag sel : Byte), Takeable .readEvents s c rest →
     c.payload = [0x40, tag, sel] →
     (∀ k : DropNo, sel.toNat = k.val → exec .readEvents s = .next (answer (ownOf s) c .ok
       (encodeDropFlags ((settleLinks s).drop k))
       ((counted s rest).modDrop k fun d => { d with flags := Vector.replicate 20 false }))) ∧
     (sel = 0x10 → exec .readEvents s = .next (answer (ownOf s) c .ok
       (encodeDeviceFlags (counted s rest)) { counted s rest with deviceFlags := Vector.replicate 5 false }))) ∧
  (∀ (s : State) (c : Command) (rest : List Command), c.payload.length = 2 →
     (Takeable .ackAllEvents s c rest → ∃ t, exec .ackAllEvents s = .next t ∧
       t = { answer (ownOf s) c .ok [] (counted s rest) with
         deviceFlags := Vector.replicate 5 false, drops := t.drops } ∧
       ∀ k, t.drop k = { (settleLinks s).drop k with flags := Vector.replicate 20 false }) ∧
     (Takeable .clearCounters s c rest → ∃ t, exec .clearCounters s = .next t ∧
       t = { answer (ownOf s) c .ok [] (counted s rest) with
         liveDevice := Vector.replicate 6 0, snapDevice := Vector.replicate 6 0, drops := t.drops } ∧
       ∀ k, t.drop k = { (settleLinks s).drop k with
         live := Vector.replicate 10 0, snap := Vector.replicate 10 0 }))

/-! ### Records as octets -/

/-- Section 7.5, R60, R136: each field of a record stands at its octets (`PolicyAt`, `SettingsAt`); a record in range is
written and read back as itself, and a refused record is one that no in-range record is written as. -/
def Obligations.RecordsRoundTrip : Prop :=
  (∀ p : Policy, p.inRange = true → PolicyAt (encodePolicy p) p) ∧
  (∀ c : Settings, c.inRange = true → SettingsAt (encodeSettings c) c) ∧
  (∀ p : Policy, p.inRange = true → (encodePolicy p).length = 52 ∧ decodePolicy (encodePolicy p) = some p) ∧
  (∀ c : Settings, c.inRange = true → (encodeSettings c).length = 11 ∧ decodeSettings (encodeSettings c) = some c) ∧
  (∀ (l : List Byte) (p : Policy), l.length = 52 → decodePolicy l = some p → p.inRange = true ∧ encodePolicy p = l) ∧
  ∀ (l : List Byte) (c : Settings), l.length = 11 → decodeSettings l = some c → c.inRange = true ∧ encodeSettings c = l

/-! ### Laws that every step keeps -/

/-- The laws hold in the state right after reset. -/
def Obligations.ResetStateMeetsTheLaws : Prop :=
  QueuesBounded State.reset ∧ ClosedGatesEmpty State.reset ∧ MapsLaw State.reset ∧ CountsInRange State.reset ∧
    VacantExactly State.reset ∧ RecordsAndTimersInRange State.reset ∧ MonitorLaw State.reset ∧
    ContextFitsPolicy State.reset ∧ LossTimerLaw State.reset ∧ NoticeLaw State.reset ∧
    ResetPendingLaw State.reset ∧ PresenceLaw State.reset

/-- R37, R51, R132. -/
def Obligations.StepKeepsQueuesBounded : Prop :=
  ∀ s t : State, QueuesBounded s → step s = .next t → QueuesBounded t

/-- R51. -/
def Obligations.StepKeepsClosedGatesEmpty : Prop :=
  ∀ s t : State, ClosedGatesEmpty s → step s = .next t → ClosedGatesEmpty t

/-- R20, R28, R36: both copies of the map in range, the law of the address plane, and the VACANT drops. -/
def Obligations.StepKeepsMapLaws : Prop :=
  (∀ s t : State, MapsLaw s → step s = .next t → MapsLaw t) ∧
  (∀ s t : State, VacantExactly s → step s = .next t → VacantExactly t)

/-- R14, R15, R60, R76, R106, R108, R113, R135, R172: counts, records, timers and candidates in range. -/
def Obligations.StepKeepsRanges : Prop :=
  (∀ s t : State, CountsInRange s → step s = .next t → CountsInRange t) ∧
  (∀ s t : State, RecordsAndTimersInRange s → step s = .next t → RecordsAndTimersInRange t) ∧
  (∀ s t : State, RecordsAndTimersInRange s → PresenceLaw s → step s = .next t → PresenceLaw t)

/-- Section 4.3, R64, R66, R67, R69. -/
def Obligations.StepKeepsMonitorLaw : Prop :=
  ∀ s t : State, MonitorLaw s → step s = .next t → MonitorLaw t

/-- R72, R74, R91. -/
def Obligations.StepKeepsContextFits : Prop :=
  ∀ s t : State, ContextFitsPolicy s → step s = .next t → ContextFitsPolicy t

/-- R35, R144, R145, R148, R149, R160: the loss timer, notice-pending and the engine state. -/
def Obligations.StepKeepsManagementLaws : Prop :=
  (∀ s t : State, LossTimerLaw s → step s = .next t → LossTimerLaw t) ∧
  (∀ s t : State, NoticeLaw s → step s = .next t → NoticeLaw t) ∧
  (∀ s t : State, ResetPendingLaw s → step s = .next t → ResetPendingLaw t)
end

