-- ==== Sys2Proof/Laws/State.lean ====
section
/-! SUPPORT. One lemma per field for each named update of the state, and access to one drop. -/
namespace Sys2Proof.Machine
open Sys2Proof

/-! ### `State.modDrop` changes `drops` alone -/

section
variable (s : State) (k : DropNo) (f : DropState → DropState)
@[simp] theorem modDrop_phase : (s.modDrop k f).phase = s.phase := rfl
@[simp] theorem modDrop_resets : (s.modDrop k f).resets = s.resets := rfl
@[simp] theorem modDrop_pins : (s.modDrop k f).pins = s.pins := rfl
@[simp] theorem modDrop_timebase : (s.modDrop k f).timebase = s.timebase := rfl
@[simp] theorem modDrop_boundaryDue : (s.modDrop k f).boundaryDue = s.boundaryDue := rfl
@[simp] theorem modDrop_sampled : (s.modDrop k f).sampled = s.sampled := rfl
@[simp] theorem modDrop_staging : (s.modDrop k f).staging = s.staging := rfl
@[simp] theorem modDrop_active : (s.modDrop k f).active = s.active := rfl
@[simp] theorem modDrop_policies : (s.modDrop k f).policies = s.policies := rfl
@[simp] theorem modDrop_classes : (s.modDrop k f).classes = s.classes := rfl
@[simp] theorem modDrop_settings : (s.modDrop k f).settings = s.settings := rfl
@[simp] theorem modDrop_commandQueue : (s.modDrop k f).commandQueue = s.commandQueue := rfl
@[simp] theorem modDrop_responseQueue : (s.modDrop k f).responseQueue = s.responseQueue := rfl
@[simp] theorem modDrop_engine : (s.modDrop k f).engine = s.engine := rfl
@[simp] theorem modDrop_lastCause : (s.modDrop k f).lastCause = s.lastCause := rfl
@[simp] theorem modDrop_lossTimer : (s.modDrop k f).lossTimer = s.lossTimer := rfl
@[simp] theorem modDrop_fallback : (s.modDrop k f).fallback = s.fallback := rfl
@[simp] theorem modDrop_deviceFlags : (s.modDrop k f).deviceFlags = s.deviceFlags := rfl
@[simp] theorem modDrop_noticePending : (s.modDrop k f).noticePending = s.noticePending := rfl
@[simp] theorem modDrop_holdoff : (s.modDrop k f).holdoff = s.holdoff := rfl
@[simp] theorem modDrop_liveDevice : (s.modDrop k f).liveDevice = s.liveDevice := rfl
@[simp] theorem modDrop_snapDevice : (s.modDrop k f).snapDevice = s.snapDevice := rfl
@[simp] theorem modDrop_pointer : (s.modDrop k f).pointer = s.pointer := rfl
@[simp] theorem modDrop_trunkTx : (s.modDrop k f).trunkTx = s.trunkTx := rfl
@[simp] theorem modDrop_pending : (s.modDrop k f).pending = s.pending := rfl
end

@[simp] theorem getElem_drops (s : State) (k : DropNo) : s.drops[k] = s.drop k := rfl

/-- A record update of the state reads its drops from the `drops` it holds. -/
@[simp] theorem drop_modDrop_self (s : State) (k : DropNo) (f : DropState → DropState) :
    (s.modDrop k f).drop k = f (s.drop k) := by
  simp [State.drop, State.modDrop]

theorem drop_modDrop_ne {s : State} {k j : DropNo} (f : DropState → DropState) (h : j ≠ k) :
    (s.modDrop k f).drop j = s.drop j := by
  have : k.val ≠ j.val := fun e => h (Fin.ext e.symm)
  simp [State.drop, State.modDrop, Vector.getElem_set_ne _ _ this]

theorem drop_modDrop (s : State) (k j : DropNo) (f : DropState → DropState) :
    (s.modDrop k f).drop j = if j = k then f (s.drop j) else s.drop j := by
  by_cases h : j = k
  · subst h; simp
  · simp [h, drop_modDrop_ne f h]

/-- Two states with the same `drops` have the same drops. -/
theorem drop_congr {s t : State} (h : t.drops = s.drops) (k : DropNo) : t.drop k = s.drop k := by
  simp [State.drop, h]

/-! ### `DropState.setMon` changes one monitor record -/

section
variable (d : DropState) (m : Monitor) (r : MonitorRec)
@[simp] theorem setMon_admission : (d.setMon m r).admission = d.admission := rfl
@[simp] theorem setMon_errWindow : (d.setMon m r).errWindow = d.errWindow := rfl
@[simp] theorem setMon_credit : (d.setMon m r).credit = d.credit := rfl
@[simp] theorem setMon_silence : (d.setMon m r).silence = d.silence := rfl
@[simp] theorem setMon_history : (d.setMon m r).history = d.history := rfl
@[simp] theorem setMon_accepted : (d.setMon m r).accepted = d.accepted := rfl
@[simp] theorem setMon_repeatCount : (d.setMon m r).repeatCount = d.repeatCount := rfl
@[simp] theorem setMon_decay : (d.setMon m r).decay = d.decay := rfl
@[simp] theorem setMon_latchTimer : (d.setMon m r).latchTimer = d.latchTimer := rfl
@[simp] theorem setMon_absenceSeen : (d.setMon m r).absenceSeen = d.absenceSeen := rfl
@[simp] theorem setMon_runCount : (d.setMon m r).runCount = d.runCount := rfl
@[simp] theorem setMon_elapsed : (d.setMon m r).elapsed = d.elapsed := rfl
@[simp] theorem setMon_upHold : (d.setMon m r).upHold = d.upHold := rfl
@[simp] theorem setMon_downHold : (d.setMon m r).downHold = d.downHold := rfl
@[simp] theorem setMon_injection : (d.setMon m r).injection = d.injection := rfl
@[simp] theorem setMon_lastFaulty : (d.setMon m r).lastFaulty = d.lastFaulty := rfl
@[simp] theorem setMon_upQueue : (d.setMon m r).upQueue = d.upQueue := rfl
@[simp] theorem setMon_downQueue : (d.setMon m r).downQueue = d.downQueue := rfl
@[simp] theorem setMon_tx : (d.setMon m r).tx = d.tx := rfl
@[simp] theorem setMon_level : (d.setMon m r).level = d.level := rfl
@[simp] theorem setMon_candidate : (d.setMon m r).candidate = d.candidate := rfl
@[simp] theorem setMon_flags : (d.setMon m r).flags = d.flags := rfl
@[simp] theorem setMon_live : (d.setMon m r).live = d.live := rfl
@[simp] theorem setMon_snap : (d.setMon m r).snap = d.snap := rfl

@[simp] theorem mon_setMon_self : (d.setMon m r).mon m = r := by
  simp [DropState.mon, DropState.setMon]
end

theorem idx_injective {m n : Monitor} (h : Monitor.idx m = Monitor.idx n) : m = n := by
  cases m <;> cases n <;> first | rfl | exact absurd h (by decide)

theorem mon_setMon_ne {d : DropState} {m n : Monitor} (r : MonitorRec) (h : n ≠ m) :
    (d.setMon m r).mon n = d.mon n := by
  have : (Monitor.idx m).val ≠ (Monitor.idx n).val := fun e => h (idx_injective (Fin.ext e).symm)
  simp [DropState.mon, DropState.setMon, Vector.getElem_set_ne _ _ this]

/-! ### `DropState.clearContext` -/

section
variable (depth : Nat) (d : DropState)
@[simp] theorem clearContext_admission : (d.clearContext depth).admission = d.admission := rfl
@[simp] theorem clearContext_errWindow : (d.clearContext depth).errWindow = [] := rfl
@[simp] theorem clearContext_credit : (d.clearContext depth).credit = depth := rfl
@[simp] theorem clearContext_silence : (d.clearContext depth).silence = 0 := rfl
@[simp] theorem clearContext_history : (d.clearContext depth).history = [] := rfl
@[simp] theorem clearContext_accepted : (d.clearContext depth).accepted = none := rfl
@[simp] theorem clearContext_repeatCount : (d.clearContext depth).repeatCount = 0 := rfl
@[simp] theorem clearContext_decay : (d.clearContext depth).decay = none := rfl
@[simp] theorem clearContext_latchTimer : (d.clearContext depth).latchTimer = none := rfl
@[simp] theorem clearContext_absenceSeen : (d.clearContext depth).absenceSeen = false := rfl
@[simp] theorem clearContext_runCount : (d.clearContext depth).runCount = 0 := rfl
@[simp] theorem clearContext_elapsed : (d.clearContext depth).elapsed = 0 := rfl
@[simp] theorem clearContext_upHold : (d.clearContext depth).upHold = d.upHold := rfl
@[simp] theorem clearContext_downHold : (d.clearContext depth).downHold = d.downHold := rfl
@[simp] theorem clearContext_injection : (d.clearContext depth).injection = 0 := rfl
@[simp] theorem clearContext_lastFaulty : (d.clearContext depth).lastFaulty = d.lastFaulty := rfl
@[simp] theorem clearContext_upQueue : (d.clearContext depth).upQueue = d.upQueue := rfl
@[simp] theorem clearContext_downQueue : (d.clearContext depth).downQueue = d.downQueue := rfl
@[simp] theorem clearContext_tx : (d.clearContext depth).tx = d.tx := rfl
@[simp] theorem clearContext_level : (d.clearContext depth).level = d.level := rfl
@[simp] theorem clearContext_candidate : (d.clearContext depth).candidate = d.candidate := rfl
@[simp] theorem clearContext_flags : (d.clearContext depth).flags = d.flags := rfl
@[simp] theorem clearContext_live : (d.clearContext depth).live = d.live := rfl
@[simp] theorem clearContext_snap : (d.clearContext depth).snap = d.snap := rfl

@[simp] theorem clearContext_mon (m : Monitor) : (d.clearContext depth).mon m = .atReset := by
  simp [DropState.clearContext, DropState.mon]
end

/-! ### The loop over the drops -/

theorem mem_allDrops (k : DropNo) : k ∈ allDrops := by revert k; decide

theorem mem_allMonitors (m : Monitor) : m ∈ allMonitors := by cases m <;> decide

/-- A reflexive and transitive relation that every step of a fold respects is respected by the fold. -/
theorem foldl_rel {α : Type} {R : State → State → Prop} (refl : ∀ s, R s s)
    (trans : ∀ s t u, R s t → R t u → R s u) (f : State → α → State) (h : ∀ s a, R s (f s a))
    (l : List α) (s : State) : R s (l.foldl f s) := by
  induction l generalizing s with
  | nil => exact refl s
  | cons a l ih => exact trans _ _ _ (h s a) (ih (f s a))

/-- The same for the loop over the drops. -/
theorem forDrops_rel {R : State → State → Prop} (refl : ∀ s, R s s)
    (trans : ∀ s t u, R s t → R t u → R s u) (f : DropNo → State → State) (h : ∀ k s, R s (f k s))
    (s : State) : R s (forDrops f s) :=
  foldl_rel refl trans (fun s k => f k s) (fun s k => h k s) allDrops s

/-- A property that every step of the loop keeps holds after the loop. -/
theorem forDrops_keeps {P : State → Prop} (f : DropNo → State → State) (h : ∀ k s, P s → P (f k s))
    (s : State) (hs : P s) : P (forDrops f s) :=
  forDrops_rel (R := fun s t => P s → P t) (fun _ hp => hp) (fun _ _ _ h₁ h₂ hp => h₂ (h₁ hp)) f h s hs

/-- A loop whose step at drop `k` changes drop `k` alone, by `g k`, changes every drop by its `g`. The
invariant `inv` carries what the steps read from the rest of the state. -/
theorem forDrops_drop (f : DropNo → State → State) (g : DropNo → DropState → DropState) (inv : State → Prop)
    (hinv : ∀ k s, inv s → inv (f k s))
    (other : ∀ k s, inv s → ∀ j, j ≠ k → (f k s).drop j = s.drop j)
    (own : ∀ k s, inv s → (f k s).drop k = g k (s.drop k)) (s : State) (hs : inv s) (j : DropNo) :
    (forDrops f s).drop j = g j (s.drop j) := by
  have main : ∀ (l : List DropNo), l.Nodup → ∀ s, inv s →
      (l.foldl (fun s k => f k s) s).drop j = if j ∈ l then g j (s.drop j) else s.drop j := by
    intro l
    induction l with
    | nil => intro _ s _; simp
    | cons k l ih =>
      intro hn s hs
      have hk := List.nodup_cons.mp hn
      simp only [List.foldl_cons, ih hk.2 (f k s) (hinv k s hs)]
      by_cases hjk : j = k
      · subst hjk; simp [hk.1, own j s hs]
      · simp [hjk, other k s hs j hjk]
  have := main allDrops (by decide) s hs
  rw [if_pos (mem_allDrops j)] at this
  exact this

/-- Work that does nothing at any drop does nothing. -/
theorem forDrops_id (f : DropNo → State → State) (s : State) (h : ∀ k, f k s = s) : forDrops f s = s := by
  have : ∀ l : List DropNo, l.foldl (fun s k => f k s) s = s := by
    intro l
    induction l with
    | nil => rfl
    | cons k l ih => simp [h k, ih]
  exact this allDrops

end Sys2Proof.Machine
end

