-- ==== Sys2Proof/Laws/Protect.lean ====
section
/-! SUPPORT. What the protection work of a drop (flags, counters, monitors, trips, policy changes, heartbeats,
entries to admission states) can do: it changes drops and notice-pending alone, other drops not at all, and of
its own drop neither the queues, the transmitter, the presence nor the holds. -/
namespace Sys2Proof.Machine
open Sys2Proof

/-- What protection work leaves of a drop, and the bounds it keeps. -/
structure Mild (d e : DropState) : Prop where
  upQueue : e.upQueue = d.upQueue
  downQueue : e.downQueue = d.downQueue
  tx : e.tx = d.tx
  level : e.level = d.level
  candidate : e.candidate = d.candidate
  upHold : e.upHold = d.upHold
  downHold : e.downHold = d.downHold
  lastFaulty : e.lastFaulty = d.lastFaulty
  snap : e.snap = d.snap
  vacant : e.admission = .vacant ↔ d.admission = .vacant
  repeatCount : d.repeatCount ≤ 15 → e.repeatCount ≤ 15
  injection : e.injection = d.injection ∨ e.injection = 0
  silence : e.silence = d.silence ∨ e.silence = 0
  elapsed : e.elapsed = d.elapsed ∨ e.elapsed = 0

theorem Mild.refl (d : DropState) : Mild d d :=
  ⟨rfl, rfl, rfl, rfl, rfl, rfl, rfl, rfl, rfl, Iff.rfl, id, .inl rfl, .inl rfl, .inl rfl⟩

/-- "Kept or 0" is transitive. -/
theorem keptOrZero {a b c : Nat} (h₁ : b = a ∨ b = 0) (h₂ : c = b ∨ c = 0) : c = a ∨ c = 0 := by omega

theorem Mild.trans {d e f : DropState} (h : Mild d e) (h' : Mild e f) : Mild d f where
  upQueue := h'.upQueue.trans h.upQueue
  downQueue := h'.downQueue.trans h.downQueue
  tx := h'.tx.trans h.tx
  level := h'.level.trans h.level
  candidate := h'.candidate.trans h.candidate
  upHold := h'.upHold.trans h.upHold
  downHold := h'.downHold.trans h.downHold
  lastFaulty := h'.lastFaulty.trans h.lastFaulty
  snap := h'.snap.trans h.snap
  vacant := h'.vacant.trans h.vacant
  repeatCount := h'.repeatCount ∘ h.repeatCount
  injection := keptOrZero h.injection h'.injection
  silence := keptOrZero h.silence h'.silence
  elapsed := keptOrZero h.elapsed h'.elapsed

/-- `t` differs from `s` in its drops and notice-pending alone. -/
def DropsOnly (s t : State) : Prop := t = { s with drops := t.drops, noticePending := t.noticePending }

theorem DropsOnly.refl (s : State) : DropsOnly s s := rfl

theorem DropsOnly.trans {s t u : State} (h : DropsOnly s t) (h' : DropsOnly t u) : DropsOnly s u := by
  unfold DropsOnly at *
  rw [h', h]

/-- Protection work at drop `k`. -/
structure Protect (k : DropNo) (s t : State) : Prop where
  rest : DropsOnly s t
  others : ∀ j, j ≠ k → t.drop j = s.drop j
  own : Mild (s.drop k) (t.drop k)

theorem Protect.refl (k : DropNo) (s : State) : Protect k s s := ⟨.refl s, fun _ _ => rfl, .refl _⟩

theorem Protect.trans {k : DropNo} {s t u : State} (h : Protect k s t) (h' : Protect k t u) :
    Protect k s u :=
  ⟨h.rest.trans h'.rest, fun j hj => (h'.others j hj).trans (h.others j hj), h.own.trans h'.own⟩

/-- Protection work at any drops. -/
structure ProtectAll (s t : State) : Prop where
  rest : DropsOnly s t
  own : ∀ k, Mild (s.drop k) (t.drop k)

theorem ProtectAll.refl (s : State) : ProtectAll s s := ⟨.refl s, fun _ => .refl _⟩

theorem ProtectAll.trans {s t u : State} (h : ProtectAll s t) (h' : ProtectAll t u) : ProtectAll s u :=
  ⟨h.rest.trans h'.rest, fun k => (h.own k).trans (h'.own k)⟩

theorem Protect.all {k : DropNo} {s t : State} (h : Protect k s t) : ProtectAll s t :=
  ⟨h.rest, fun j => if hj : j = k then hj ▸ h.own else by rw [h.others j hj]; exact .refl _⟩

/-- A change of drop `k` by a mild function is protection work. -/
theorem modDrop_protect {k : DropNo} {f : DropState → DropState} {s : State}
    (h : Mild (s.drop k) (f (s.drop k))) : Protect k s (s.modDrop k f) :=
  ⟨rfl, fun _ hj => drop_modDrop_ne f hj, by simpa using h⟩

/-- Protection work inside a fold over the monitors. -/
theorem foldMonitors_protect {k : DropNo} (f : State → Monitor → State) (h : ∀ s m, Protect k s (f s m))
    (l : List Monitor) (s : State) : Protect k s (l.foldl f s) :=
  foldl_rel (.refl k) (fun _ _ _ => .trans) f h l s

/-- Protection work inside a loop over the drops. -/
theorem forDrops_protect (f : DropNo → State → State) (h : ∀ k s, ProtectAll s (f k s)) (s : State) :
    ProtectAll s (forDrops f s) :=
  forDrops_rel .refl (fun _ _ _ => .trans) f h s

/-! ### One lemma for each shared operation -/

theorem notify_protect (k : DropNo) (kind : Nat) (s : State) : Protect k s (s.notify kind) :=
  ⟨rfl, fun _ _ => rfl, .refl _⟩

theorem raiseDrop_protect (k : DropNo) (f : DropFlag) (s : State) : Protect k s (raiseDrop k f s) := by
  unfold raiseDrop
  split
  · exact .refl k s
  · exact (notify_protect k f.kind s).trans (modDrop_protect ⟨rfl, rfl, rfl, rfl, rfl, rfl, rfl, rfl, rfl,
      Iff.rfl, id, .inl rfl, .inl rfl, .inl rfl⟩)

theorem countDrop_protect (k : DropNo) (c : DropCounter) (s : State) : Protect k s (countDrop k c s) := by
  have h : Protect k s
      (s.modDrop k fun d => { d with live := d.live.set (DropCounter.idx c) (d.count c + 1) }) :=
    modDrop_protect ⟨rfl, rfl, rfl, rfl, rfl, rfl, rfl, rfl, rfl, Iff.rfl, id, .inl rfl, .inl rfl, .inl rfl⟩
  unfold countDrop
  split
  · exact h.trans (raiseDrop_protect k .wrap _)
  · exact h

theorem setMonitor_protect (k : DropNo) (m : Monitor) (r : MonitorRec) (s : State) :
    Protect k s (setMonitor k m r s) :=
  modDrop_protect ⟨rfl, rfl, rfl, rfl, rfl, rfl, rfl, rfl, rfl, Iff.rfl, id, .inl rfl, .inl rfl, .inl rfl⟩

theorem enterLatched_protect (k : DropNo) (s : State) (h : (s.drop k).admission ≠ .vacant) :
    Protect k s (enterLatched k s) :=
  (modDrop_protect ⟨rfl, rfl, rfl, rfl, rfl, rfl, rfl, rfl, rfl, by simp [h], id, .inl rfl, .inl rfl, .inl rfl⟩).trans
    (raiseDrop_protect k .latch _)

theorem enterAdmitted_protect (k : DropNo) (s : State) (h : (s.drop k).admission ≠ .vacant) :
    Protect k s (enterAdmitted k s) :=
  (modDrop_protect ⟨rfl, rfl, rfl, rfl, rfl, rfl, rfl, rfl, rfl, by simp [h], id, .inl rfl, .inl rfl, .inl rfl⟩).trans
    (raiseDrop_protect k .admitted _)

theorem enterBarred_protect (k : DropNo) (s : State) (h : (s.drop k).admission ≠ .vacant) :
    Protect k s (enterBarred k s) :=
  (modDrop_protect ⟨rfl, rfl, rfl, rfl, rfl, rfl, rfl, rfl, rfl, by simp [h], id, .inl rfl, .inl rfl, .inl rfl⟩).trans
    (raiseDrop_protect k .barred _)

/-- R105 from a state other than VACANT; the queues and the holds are kept. -/
theorem enterProbation_protect (k : DropNo) (s : State) (h : (s.drop k).admission ≠ .vacant) :
    Protect k s (enterProbation k s) :=
  modDrop_protect ⟨rfl, rfl, rfl, rfl, rfl, rfl, rfl, rfl, rfl, by simp [h], by simp, .inr rfl, .inr rfl, .inr rfl⟩

theorem release_protect (k : DropNo) (s : State) (h : (s.drop k).admission ≠ .vacant) :
    Protect k s (release k s) :=
  (enterProbation_protect k s h).trans (raiseDrop_protect k .release _)

theorem advanceRepeat_protect (k : DropNo) (s : State) : Protect k s (advanceRepeat k s) := by
  have h : Protect k s (s.modDrop k fun d =>
      { d with repeatCount := min 15 (d.repeatCount + 1), decay := some (.left (s.policyOf k).decayInterval) }) :=
    modDrop_protect ⟨rfl, rfl, rfl, rfl, rfl, rfl, rfl, rfl, rfl, Iff.rfl, fun _ => Nat.min_le_left _ _,
      .inl rfl, .inl rfl, .inl rfl⟩
  unfold advanceRepeat
  simp only
  split
  · rename_i hl
    refine h.trans (enterLatched_protect k _ fun hv => ?_)
    unfold State.latchesAt at hl
    rw [hv] at hl
    simp at hl
  · exact h

theorem zeroRunInProbation_protect (k : DropNo) (s : State) : Protect k s (zeroRunInProbation k s) := by
  refine modDrop_protect ?_
  split
  · exact ⟨rfl, rfl, rfl, rfl, rfl, rfl, rfl, rfl, rfl, Iff.rfl, id, .inl rfl, .inl rfl, .inl rfl⟩
  · exact .refl _

/-- R70: a trip changes flags, TRIPS, the repeat counter, the run count and the admission state. -/
theorem trip_protect (k : DropNo) (m : Monitor) (s : State) : Protect k s (trip k m s) := by
  have h := (((setMonitor_protect k m { (s.drop k).mon m with state := .tripped, timer := none } s).trans
    (raiseDrop_protect k (.trip m) _)).trans (countDrop_protect k .trips _)).trans
    (zeroRunInProbation_protect k _)
  unfold trip
  simp only
  split
  · exact h.trans (advanceRepeat_protect k _)
  · exact h

theorem clearMonitor_protect (k : DropNo) (m : Monitor) (s : State) : Protect k s (clearMonitor k m s) :=
  setMonitor_protect k m _ s

theorem recovered_protect (k : DropNo) (m : Monitor) (s : State) : Protect k s (recovered k m s) :=
  (clearMonitor_protect k m s).trans (raiseDrop_protect k (.cleared m) _)

theorem startRecovery_protect (k : DropNo) (m : Monitor) (s : State) : Protect k s (startRecovery k m s) := by
  unfold startRecovery
  simp only
  split
  · exact recovered_protect k m s
  · exact setMonitor_protect k m _ s

theorem alertOrTrip_protect (k : DropNo) (m : Monitor) (s : State) : Protect k s (alertOrTrip k m s) := by
  unfold alertOrTrip
  simp only
  split
  · exact trip_protect k m s
  · exact (setMonitor_protect k m _ s).trans (raiseDrop_protect k (.alert m) _)

theorem onConditionTrue_protect (k : DropNo) (m : Monitor) (s : State) :
    Protect k s (onConditionTrue k m s) := by
  unfold onConditionTrue
  split
  · exact alertOrTrip_protect k m s
  · exact .refl k s
  · exact .refl k s
  · exact setMonitor_protect k m _ s

theorem onConditionFalse_protect (k : DropNo) (m : Monitor) (s : State) :
    Protect k s (onConditionFalse k m s) := by
  unfold onConditionFalse
  split
  · exact .refl k s
  · exact clearMonitor_protect k m s
  · split
    · exact startRecovery_protect k m s
    · exact .refl k s
  · exact .refl k s

theorem setCondition_protect (running : Bool) (k : DropNo) (m : Monitor) (v : Bool) (s : State) :
    Protect k s (setCondition running k m v s) := by
  unfold setCondition
  simp only
  split
  · exact .refl k s
  · have h := setMonitor_protect k m { (s.drop k).mon m with condition := v } s
    split
    · split
      · exact h.trans (onConditionTrue_protect k m _)
      · exact h.trans (onConditionFalse_protect k m _)
    · exact h

theorem condition_protect (k : DropNo) (m : Monitor) (v : Bool) (s : State) :
    Protect k s (condition k m v s) := setCondition_protect _ k m v s

theorem judgeErr_protect (running : Bool) (k : DropNo) (s : State) : Protect k s (judgeErr running k s) := by
  unfold judgeErr
  simp only
  split
  · exact setCondition_protect running k .err true s
  · split
    · exact setCondition_protect running k .err false s
    · exact .refl k s

/-- R72: a mark changes the window and, through the condition, the ERR monitor. -/
theorem appendMark_protect (k : DropNo) (mark : Mark) (s : State) : Protect k s (appendMark k mark s) :=
  (modDrop_protect ⟨rfl, rfl, rfl, rfl, rfl, rfl, rfl, rfl, rfl, Iff.rfl, id, .inl rfl, .inl rfl, .inl rfl⟩).trans
    (judgeErr_protect _ k _)

theorem disableStep_protect (old : Policy) (k : DropNo) (s : State) (m : Monitor) :
    Protect k s (disableStep old k s m) := by
  unfold disableStep
  split
  · split
    · exact recovered_protect k m s
    · exact clearMonitor_protect k m s
  · exact .refl k s

theorem errParameters_protect (old : Policy) (k : DropNo) (s : State) :
    Protect k s (errParameters old k s) := by
  unfold errParameters
  simp only
  split
  · exact (modDrop_protect ⟨rfl, rfl, rfl, rfl, rfl, rfl, rfl, rfl, rfl, Iff.rfl, id, .inl rfl, .inl rfl,
      .inl rfl⟩).trans (setCondition_protect _ k .err false _)
  · split
    · exact judgeErr_protect _ k s
    · exact .refl k s

theorem rateParameters_protect (old : Policy) (k : DropNo) (s : State) :
    Protect k s (rateParameters old k s) := by
  have h : Protect k s (s.modDrop k fun d => { d with credit := min d.credit (s.policyOf k).depth }) :=
    modDrop_protect ⟨rfl, rfl, rfl, rfl, rfl, rfl, rfl, rfl, rfl, Iff.rfl, id, .inl rfl, .inl rfl, .inl rfl⟩
  unfold rateParameters
  simp only
  split
  · exact h.trans (setCondition_protect _ k .rate false _)
  · exact h

theorem silParameters_protect (old : Policy) (k : DropNo) (s : State) :
    Protect k s (silParameters old k s) := by
  unfold silParameters
  simp only
  split
  · exact setCondition_protect _ k .sil _ s
  · exact .refl k s

theorem statParameters_protect (old : Policy) (k : DropNo) (s : State) :
    Protect k s (statParameters old k s) := by
  unfold statParameters
  simp only
  split
  · exact modDrop_protect ⟨rfl, rfl, rfl, rfl, rfl, rfl, rfl, rfl, rfl, Iff.rfl, id, .inl rfl, .inl rfl, .inl rfl⟩
  · exact .refl k s

theorem restartStep_protect (k : DropNo) (s : State) (m : Monitor) : Protect k s (restartStep k s m) := by
  unfold restartStep
  simp only
  split
  · split
    · exact trip_protect k m s
    · exact setMonitor_protect k m _ s
  · split
    · exact recovered_protect k m s
    · exact setMonitor_protect k m _ s
  · exact .refl k s
  · exact .refl k s

theorem enableStep_protect (old : Policy) (k : DropNo) (s : State) (m : Monitor) :
    Protect k s (enableStep old k s m) := by
  unfold enableStep
  split
  · simp only
    split
    · exact (clearMonitor_protect k m s).trans (alertOrTrip_protect k m _)
    · exact clearMonitor_protect k m s
  · exact .refl k s

theorem probationStep_protect (k : DropNo) (s : State) : Protect k s (probationStep k s) := by
  unfold probationStep
  simp only
  split
  · rename_i h
    have hv : (s.drop k).admission ≠ .vacant := by simp [h]
    split
    · exact enterAdmitted_protect k s hv
    · split
      · exact enterBarred_protect k s hv
      · exact .refl k s
  · exact .refl k s

theorem decayStep_protect (old : Policy) (k : DropNo) (s : State) : Protect k s (decayStep old k s) := by
  unfold decayStep
  simp only
  split
  · exact modDrop_protect ⟨rfl, rfl, rfl, rfl, rfl, rfl, rfl, rfl, rfl, Iff.rfl, id, .inl rfl, .inl rfl, .inl rfl⟩
  · exact .refl k s

theorem latchHoldStep_protect (old : Policy) (k : DropNo) (s : State) :
    Protect k s (latchHoldStep old k s) := by
  unfold latchHoldStep
  simp only
  split
  · exact modDrop_protect ⟨rfl, rfl, rfl, rfl, rfl, rfl, rfl, rfl, rfl, Iff.rfl, id, .inl rfl, .inl rfl, .inl rfl⟩
  · exact .refl k s

/-- R83: a policy change of drop `k` is protection work at drop `k`. -/
theorem policyChange_protect (k : DropNo) (old : Policy) (s : State) :
    Protect k s (policyChange k old s) := by
  unfold policyChange
  simp only
  split
  · exact modDrop_protect ⟨rfl, rfl, rfl, rfl, rfl, rfl, rfl, rfl, rfl, Iff.rfl, id, .inl rfl, .inl rfl, .inl rfl⟩
  · exact (((((((((foldMonitors_protect _ (disableStep_protect old k) _ s).trans
      (errParameters_protect old k _)).trans (rateParameters_protect old k _)).trans
      (silParameters_protect old k _)).trans (statParameters_protect old k _)).trans
      (foldMonitors_protect _ (restartStep_protect k) _ _)).trans
      (foldMonitors_protect _ (enableStep_protect old k) _ _)).trans
      (probationStep_protect k _)).trans (decayStep_protect old k _)).trans
      (latchHoldStep_protect old k _)

theorem filterCode_protect (k : DropNo) (c : Byte) (s : State) : Protect k s (filterCode k c s) := by
  have h : Protect k s (s.modDrop k fun d =>
      { d with history := keepLast (s.policyOf k).persistence ((s.drop k).history ++ [c]) }) :=
    modDrop_protect ⟨rfl, rfl, rfl, rfl, rfl, rfl, rfl, rfl, rfl, Iff.rfl, id, .inl rfl, .inl rfl, .inl rfl⟩
  unfold filterCode
  simp only
  split
  · exact (h.trans (modDrop_protect ⟨rfl, rfl, rfl, rfl, rfl, rfl, rfl, rfl, rfl, Iff.rfl, id, .inl rfl,
      .inl rfl, .inl rfl⟩)).trans (raiseDrop_protect k .status _)
  · exact h

theorem judgeRun_protect (k : DropNo) (s : State) : Protect k s (judgeRun k s) := by
  unfold judgeRun
  split
  · rename_i hp
    have h : Protect k s (s.modDrop k fun d => { d with runCount := d.runCount + 1 }) :=
      modDrop_protect ⟨rfl, rfl, rfl, rfl, rfl, rfl, rfl, rfl, rfl, Iff.rfl, id, .inl rfl, .inl rfl, .inl rfl⟩
    split
    · simp only
      split
      · exact h.trans (enterAdmitted_protect k _ (by simp [hp]))
      · exact h
    · exact modDrop_protect ⟨rfl, rfl, rfl, rfl, rfl, rfl, rfl, rfl, rfl, Iff.rfl, id, .inl rfl, .inl rfl,
        .inl rfl⟩
  · exact .refl k s

/-- R89: the taking of a heartbeat is protection work at its drop. -/
theorem takeHeartbeat_protect (k : DropNo) (c : Byte) (s : State) : Protect k s (takeHeartbeat k c s) := by
  unfold takeHeartbeat
  simp only
  refine (filterCode_protect k c s).trans ?_
  generalize filterCode k c s = s₁
  refine Protect.trans (t := s₁.modDrop k fun d => { d with silence := 0 })
    (modDrop_protect ⟨rfl, rfl, rfl, rfl, rfl, rfl, rfl, rfl, rfl, Iff.rfl, id, .inl rfl, .inr rfl, .inl rfl⟩) ?_
  exact (((condition_protect k .sil false _).trans (condition_protect k .stat _ _)).trans
    (judgeRun_protect k _)).trans (countDrop_protect k .heartbeats _)

theorem changePolicies_protect (fb : Fin 8) (oldOf : DropNo → Policy) (s : State) :
    ProtectAll s (changePolicies fb oldOf s) := by
  refine forDrops_protect _ (fun k s => ?_) s
  split
  · exact .refl s
  · exact (policyChange_protect k _ s).all

theorem countTimes_protect (k : DropNo) (c : DropCounter) (n : Nat) (s : State) :
    Protect k s (countTimes k c n s) := by
  induction n generalizing s with
  | zero => exact .refl k s
  | succ n ih => exact (countDrop_protect k c s).trans (ih _)

end Sys2Proof.Machine
end

