-- ==== Sys2Proof/Laws/Flags.lean ====
section
/-! SUPPORT. What raising a flag and advancing a counter do, field by field. -/
namespace Sys2Proof.Machine
open Sys2Proof

theorem dropFlag_idx_injective {f g : DropFlag} (h : DropFlag.idx f = DropFlag.idx g) : f = g := by
  cases f <;> cases g <;>
    first
    | rfl
    | exact absurd h (by decide)
    | (rename_i m n; cases m <;> cases n <;> first | rfl | exact absurd h (by decide))
    | (rename_i m; cases m <;> exact absurd h (by decide))

theorem deviceFlag_idx_injective {f g : DeviceFlag} (h : DeviceFlag.idx f = DeviceFlag.idx g) : f = g := by
  cases f <;> cases g <;> first | rfl | exact absurd h (by decide)

theorem dropCounter_idx_injective {c e : DropCounter} (h : DropCounter.idx c = DropCounter.idx e) : c = e := by
  cases c <;> cases e <;> first | rfl | exact absurd h (by decide)

theorem deviceCounter_idx_injective {c e : DeviceCounter} (h : DeviceCounter.idx c = DeviceCounter.idx e) :
    c = e := by
  cases c <;> cases e <;> first | rfl | exact absurd h (by decide)

@[simp] theorem drop_notify (s : State) (n : Nat) (k : DropNo) : (s.notify n).drop k = s.drop k := rfl
@[simp] theorem deviceFlag_notify (s : State) (n : Nat) (f : DeviceFlag) :
    (s.notify n).deviceFlag f = s.deviceFlag f := rfl
@[simp] theorem deviceFlag_modDrop (s : State) (k : DropNo) (g : DropState → DropState) (f : DeviceFlag) :
    (s.modDrop k g).deviceFlag f = s.deviceFlag f := rfl
@[simp] theorem deviceCount_modDrop (s : State) (k : DropNo) (g : DropState → DropState) (c : DeviceCounter) :
    (s.modDrop k g).deviceCount c = s.deviceCount c := rfl

/-- R157: after raising, the flag is set and every other flag of the drop is as it was. -/
theorem raiseDrop_flag (k : DropNo) (f g : DropFlag) (s : State) :
    ((raiseDrop k f s).drop k).flag g = (decide (g = f) || (s.drop k).flag g) := by
  unfold raiseDrop
  by_cases hf : (s.drop k).flag f = true
  · rw [if_pos hf]
    by_cases hg : g = f
    · subst hg; simp [hf]
    · simp [hg]
  · rw [if_neg hf, drop_modDrop_self]
    by_cases hg : g = f
    · subst hg; simp [DropState.flag]
    · have : (DropFlag.idx f).val ≠ (DropFlag.idx g).val := fun e =>
        hg (dropFlag_idx_injective (Fin.ext e)).symm
      simp [DropState.flag, hg, Vector.getElem_set_ne _ _ this]

/-- Raising a flag changes the flags of the drop alone. -/
theorem raiseDrop_own (k : DropNo) (f : DropFlag) (s : State) :
    (raiseDrop k f s).drop k = { s.drop k with flags := ((raiseDrop k f s).drop k).flags } := by
  unfold raiseDrop
  split
  · rfl
  · simp

@[simp] theorem raiseDrop_live (k : DropNo) (f : DropFlag) (s : State) :
    ((raiseDrop k f s).drop k).live = (s.drop k).live := by rw [raiseDrop_own]

/-- R166, R167: the counter advances modulo 65536 and every other counter of the drop is as it was. -/
theorem countDrop_count (k : DropNo) (c e : DropCounter) (s : State) :
    ((countDrop k c s).drop k).count e = if e = c then (s.drop k).count c + 1 else (s.drop k).count e := by
  have key : ∀ l : Vector (BitVec 16) 10,
      (l.set (DropCounter.idx c) ((s.drop k).count c + 1))[DropCounter.idx e] =
        if e = c then (s.drop k).count c + 1 else l[DropCounter.idx e] := by
    intro l
    by_cases h : e = c
    · subst h; simp
    · have : (DropCounter.idx c).val ≠ (DropCounter.idx e).val := fun i =>
        h (dropCounter_idx_injective (Fin.ext i)).symm
      simp [h, Vector.getElem_set_ne _ _ this]
  unfold countDrop
  simp only
  split
  · simp only [DropState.count, raiseDrop_live, drop_modDrop_self]
    exact key _
  · simp only [DropState.count, drop_modDrop_self]
    exact key _

/-- Advancing a counter changes the live counters and the flags of the drop alone. -/
theorem countDrop_own (k : DropNo) (c : DropCounter) (s : State) :
    (countDrop k c s).drop k =
      { s.drop k with live := ((countDrop k c s).drop k).live, flags := ((countDrop k c s).drop k).flags } := by
  unfold countDrop
  simp only
  split
  · rw [raiseDrop_own]; simp
  · simp

/-- R167: an advance raises no flag of the drop but WRAP. -/
theorem countDrop_flag (k : DropNo) (c : DropCounter) (g : DropFlag) (s : State) (h : g ≠ .wrap) :
    ((countDrop k c s).drop k).flag g = (s.drop k).flag g := by
  unfold countDrop
  simp only
  split
  · rw [raiseDrop_flag]; simp [h, DropState.flag]
  · simp [DropState.flag]

/-- `n` advances of one counter. -/
theorem countTimes_count (k : DropNo) (c e : DropCounter) (n : Nat) (s : State) :
    ((countTimes k c n s).drop k).count e =
      if e = c then (s.drop k).count c + BitVec.ofNat 16 n else (s.drop k).count e := by
  induction n generalizing s with
  | zero => by_cases h : e = c <;> simp [countTimes, h]
  | succ n ih =>
    rw [countTimes, ih]
    by_cases h : e = c
    · subst h
      have : BitVec.ofNat 16 (n + 1) = 1 + BitVec.ofNat 16 n := by
        rw [Nat.add_comm, BitVec.ofNat_add]; rfl
      simp [countDrop_count, this, BitVec.add_assoc]
    · simp [h, countDrop_count]

theorem countTimes_own (k : DropNo) (c : DropCounter) (n : Nat) (s : State) :
    (countTimes k c n s).drop k =
      { s.drop k with live := ((countTimes k c n s).drop k).live
                      flags := ((countTimes k c n s).drop k).flags } := by
  induction n generalizing s with
  | zero => rfl
  | succ n ih => rw [countTimes, ih, countDrop_own]

theorem countTimes_flag (k : DropNo) (c : DropCounter) (g : DropFlag) (n : Nat) (s : State) (h : g ≠ .wrap) :
    ((countTimes k c n s).drop k).flag g = (s.drop k).flag g := by
  induction n generalizing s with
  | zero => rfl
  | succ n ih => rw [countTimes, ih, countDrop_flag k c g s h]

/-! ### The device -/

/-- `t` differs from `s` in the device's flags and counters and notice-pending alone. -/
def DeviceOnly (s t : State) : Prop :=
  t = { s with deviceFlags := t.deviceFlags, liveDevice := t.liveDevice, noticePending := t.noticePending }

/-- Raising a device flag changes the device flags and notice-pending alone. -/
theorem raiseDevice_rest (f : DeviceFlag) (s : State) :
    raiseDevice f s = { s with deviceFlags := (raiseDevice f s).deviceFlags
                               noticePending := (raiseDevice f s).noticePending } := by
  unfold raiseDevice
  split <;> rfl

theorem raiseDevice_only (f : DeviceFlag) (s : State) : DeviceOnly s (raiseDevice f s) := by
  unfold DeviceOnly
  rw [raiseDevice_rest]

@[simp] theorem raiseDevice_liveDevice (f : DeviceFlag) (s : State) :
    (raiseDevice f s).liveDevice = s.liveDevice := by rw [raiseDevice_rest]

/-- R157 for a device flag. -/
theorem raiseDevice_flag (f g : DeviceFlag) (s : State) :
    (raiseDevice f s).deviceFlag g = (decide (g = f) || s.deviceFlag g) := by
  unfold raiseDevice
  by_cases hf : s.deviceFlag f = true
  · rw [if_pos hf]
    by_cases hg : g = f
    · subst hg; simp [hf]
    · simp [hg]
  · rw [if_neg hf]
    by_cases hg : g = f
    · subst hg; simp [State.deviceFlag]
    · have : (DeviceFlag.idx f).val ≠ (DeviceFlag.idx g).val := fun e =>
        hg (deviceFlag_idx_injective (Fin.ext e)).symm
      simp [State.deviceFlag, hg, Vector.getElem_set_ne _ _ this]

theorem countDevice_only (c : DeviceCounter) (s : State) : DeviceOnly s (countDevice c s) := by
  unfold DeviceOnly countDevice
  simp only
  split
  · rw [raiseDevice_rest]
  · rfl

/-- R166, R167 for a device counter. -/
theorem countDevice_count (c e : DeviceCounter) (s : State) :
    (countDevice c s).deviceCount e = if e = c then s.deviceCount c + 1 else s.deviceCount e := by
  have key : (s.liveDevice.set (DeviceCounter.idx c) (s.deviceCount c + 1))[DeviceCounter.idx e] =
      if e = c then s.deviceCount c + 1 else s.liveDevice[DeviceCounter.idx e] := by
    by_cases h : e = c
    · subst h; simp
    · have : (DeviceCounter.idx c).val ≠ (DeviceCounter.idx e).val := fun i =>
        h (deviceCounter_idx_injective (Fin.ext i)).symm
      simp [h, Vector.getElem_set_ne _ _ this]
  unfold countDevice
  simp only
  split
  · simp only [State.deviceCount, raiseDevice_liveDevice]; exact key
  · simp only [State.deviceCount]; exact key

/-- R167: an advance raises no device flag but DEVICE_WRAP. -/
theorem countDevice_flag (c : DeviceCounter) (g : DeviceFlag) (s : State) (h : g ≠ .deviceWrap) :
    (countDevice c s).deviceFlag g = s.deviceFlag g := by
  unfold countDevice
  simp only
  split
  · rw [raiseDevice_flag]; simp [h, State.deviceFlag]
  · rfl

theorem DeviceOnly.refl (s : State) : DeviceOnly s s := rfl

theorem DeviceOnly.trans {s t u : State} (h : DeviceOnly s t) (h' : DeviceOnly t u) : DeviceOnly s u := by
  unfold DeviceOnly at *
  rw [h', h]

end Sys2Proof.Machine
end

