-- ==== Sys2Proof/Laws/Gates.lean ====
section
/-! SUPPORT. What a purge and the comparison of the gates can do (R51, R52, R126). -/
namespace Sys2Proof.Machine
open Sys2Proof

/-- The gates of a drop read its admission, its monitors, its holds, its policy and the isolation term alone. -/
theorem gates_congr {s t : State} {k : DropNo} (adm : (t.drop k).admission = (s.drop k).admission)
    (mon : (t.drop k).monitors = (s.drop k).monitors) (up : (t.drop k).upHold = (s.drop k).upHold)
    (down : (t.drop k).downHold = (s.drop k).downHold) (pol : t.policyOf k = s.policyOf k)
    (iso : t.isolated = s.isolated) : t.upGate k = s.upGate k ∧ t.downGate k = s.downGate k := by
  unfold State.upGate State.downGate DropState.closesUp DropState.closesDown DropState.mon
  rw [adm, mon, up, down, pol, iso]
  exact ⟨rfl, rfl⟩

/-- The policy in force reads nothing that work on the drops changes. -/
theorem DropsOnly.policyOf {s t : State} (h : DropsOnly s t) (k : DropNo) : t.policyOf k = s.policyOf k := by
  rw [h]; rfl

theorem DropsOnly.isolated {s t : State} (h : DropsOnly s t) : t.isolated = s.isolated := by rw [h]; rfl

/-- `t` differs from `s` in drop `k` and notice-pending alone. -/
structure DropOnly (k : DropNo) (s t : State) : Prop where
  rest : DropsOnly s t
  others : ∀ j, j ≠ k → t.drop j = s.drop j

theorem DropOnly.refl (k : DropNo) (s : State) : DropOnly k s s := ⟨.refl s, fun _ _ => rfl⟩

theorem DropOnly.trans {k : DropNo} {s t u : State} (h : DropOnly k s t) (h' : DropOnly k t u) :
    DropOnly k s u :=
  ⟨h.rest.trans h'.rest, fun j hj => (h'.others j hj).trans (h.others j hj)⟩

theorem Protect.dropOnly {k : DropNo} {s t : State} (h : Protect k s t) : DropOnly k s t := ⟨h.rest, h.others⟩

theorem modDrop_dropOnly (k : DropNo) (f : DropState → DropState) (s : State) : DropOnly k s (s.modDrop k f) :=
  ⟨rfl, fun _ hj => drop_modDrop_ne f hj⟩

theorem purgeUp_dropOnly (k : DropNo) (s : State) : DropOnly k s (purgeUp k s) :=
  (modDrop_dropOnly k _ s).trans (countTimes_protect k _ _ _).dropOnly

theorem purgeDown_dropOnly (k : DropNo) (s : State) : DropOnly k s (purgeDown k s) :=
  (modDrop_dropOnly k _ s).trans (countTimes_protect k _ _ _).dropOnly

/-- R51: a purge empties the queue and changes of its drop only flags and live counters beside it. -/
theorem purgeUp_own (k : DropNo) (s : State) :
    (purgeUp k s).drop k =
      { s.drop k with upQueue := [], live := ((purgeUp k s).drop k).live
                      flags := ((purgeUp k s).drop k).flags } := by
  unfold purgeUp
  rw [countTimes_own]
  simp

theorem purgeDown_own (k : DropNo) (s : State) :
    (purgeDown k s).drop k =
      { s.drop k with downQueue := [], live := ((purgeDown k s).drop k).live
                      flags := ((purgeDown k s).drop k).flags } := by
  unfold purgeDown
  rw [countTimes_own]
  simp

/-- R51: a purge counts each frame it removes, on one counter. -/
theorem purgeUp_count (k : DropNo) (e : DropCounter) (s : State) :
    ((purgeUp k s).drop k).count e =
      if e = .gatedUp then (s.drop k).count .gatedUp + BitVec.ofNat 16 (s.drop k).upQueue.length
      else (s.drop k).count e := by
  unfold purgeUp
  rw [countTimes_count]
  simp [DropState.count]

theorem purgeDown_count (k : DropNo) (e : DropCounter) (s : State) :
    ((purgeDown k s).drop k).count e =
      if e = .gatedDown then (s.drop k).count .gatedDown + BitVec.ofNat 16 (s.drop k).downQueue.length
      else (s.drop k).count e := by
  unfold purgeDown
  rw [countTimes_count]
  simp [DropState.count]

/-- A purge raises no flag but WRAP. -/
theorem purgeUp_flag (k : DropNo) (f : DropFlag) (s : State) (h : f ≠ .wrap) :
    ((purgeUp k s).drop k).flag f = (s.drop k).flag f := by
  unfold purgeUp
  rw [countTimes_flag _ _ _ _ _ h]
  simp [DropState.flag]

theorem purgeDown_flag (k : DropNo) (f : DropFlag) (s : State) (h : f ≠ .wrap) :
    ((purgeDown k s).drop k).flag f = (s.drop k).flag f := by
  unfold purgeDown
  rw [countTimes_flag _ _ _ _ _ h]
  simp [DropState.flag]

theorem closeDropGates_dropOnly (before after : State) (k : DropNo) (s : State) :
    DropOnly k s (closeDropGates before after k s) := by
  have up : DropOnly k s (if before.upGate k && !after.upGate k then purgeUp k s else s) := by
    split
    · exact purgeUp_dropOnly k s
    · exact .refl k s
  have down : ∀ u, DropOnly k u (if before.downGate k && !after.downGate k then purgeDown k u else u) := by
    intro u
    split
    · exact purgeDown_dropOnly k u
    · exact .refl k u
  exact up.trans (down _)

/-- The purges at the end of an event change drops and notice-pending alone. -/
theorem closeGates_dropsOnly (before after : State) : DropsOnly after (closeGates before after) :=
  forDrops_rel .refl (fun _ _ _ => .trans) _ (fun k s => (closeDropGates_dropOnly before after k s).rest) after

/-- Where no gate closes between the two states, nothing is purged (R52). -/
theorem closeGates_of_none_closes (before after : State)
    (h : ∀ k, (before.upGate k && !after.upGate k) = false ∧ (before.downGate k && !after.downGate k) = false) :
    closeGates before after = after :=
  forDrops_id _ _ fun k => by unfold closeDropGates; simp [h k]

/-- An event whose work leaves every gate as it was is its work. -/
theorem event_of_gates_kept (work : State → State) (s : State)
    (h : ∀ k, (work s).upGate k = s.upGate k ∧ (work s).downGate k = s.downGate k) : event work s = work s :=
  closeGates_of_none_closes s (work s) fun k => by simp [h k]

end Sys2Proof.Machine
end

