-- ==== Sys2Proof/Laws/Monitors.lean ====
section
/-! SUPPORT. What a trip and the value of a condition do to the monitors of a drop (section 4.3), and that a frame
which a reset came upon does not arrive (R3). -/
namespace Sys2Proof.Machine
open Sys2Proof Sys2Proof.Safety

@[simp] theorem raiseDrop_monitors (k : DropNo) (f : DropFlag) (s : State) :
    ((raiseDrop k f s).drop k).monitors = (s.drop k).monitors := by
  rw [raiseDrop_own]

@[simp] theorem countDrop_monitors (k : DropNo) (c : DropCounter) (s : State) :
    ((countDrop k c s).drop k).monitors = (s.drop k).monitors := by
  rw [countDrop_own]

@[simp] theorem advanceRepeat_monitors (k : DropNo) (s : State) :
    ((advanceRepeat k s).drop k).monitors = (s.drop k).monitors := by
  unfold advanceRepeat
  simp only
  split <;> simp [enterLatched]

@[simp] theorem zeroRunInProbation_monitors (k : DropNo) (s : State) :
    ((zeroRunInProbation k s).drop k).monitors = (s.drop k).monitors := by
  simp only [zeroRunInProbation, drop_modDrop_self]
  split <;> rfl

@[simp] theorem setMonitor_monitors (k : DropNo) (m : Monitor) (r : MonitorRec) (s : State) :
    ((setMonitor k m r s).drop k).monitors = ((s.drop k).setMon m r).monitors := by
  simp [setMonitor]

@[simp] theorem policyOf_setMonitor (k j : DropNo) (m : Monitor) (r : MonitorRec) (s : State) :
    (setMonitor k m r s).policyOf j = s.policyOf j := rfl

/-- R70: a trip puts its monitor into TRIPPED without a timer, and moves no other. -/
theorem trip_monitors (k : DropNo) (m : Monitor) (s : State) : ((trip k m s).drop k).monitors =
    ((s.drop k).setMon m { (s.drop k).mon m with state := .tripped, timer := none }).monitors := by
  unfold trip
  simp only
  split <;> simp

/-- The record of a monitor is read from the monitors alone. -/
theorem mon_eq_of_monitors {d e : DropState} (h : e.monitors = d.monitors) (m : Monitor) : e.mon m = d.mon m := by
  simp [DropState.mon, h]

@[simp] theorem setMon_mon (d : DropState) (m : Monitor) : d.setMon m (d.mon m) = d := by
  simp [DropState.setMon, DropState.mon]

@[simp] theorem setMon_setMon (d : DropState) (m : Monitor) (a b : MonitorRec) :
    (d.setMon m a).setMon m b = d.setMon m b := by
  simp [DropState.setMon]

@[simp] theorem drop_setMonitor_self (k : DropNo) (m : Monitor) (r : MonitorRec) (s : State) :
    (setMonitor k m r s).drop k = (s.drop k).setMon m r := by
  simp [setMonitor]

/-- R66: from CLEAR with a true condition. -/
theorem alertOrTrip_monitors (k : DropNo) (m : Monitor) (s : State) :
    ((alertOrTrip k m s).drop k).monitors = ((s.drop k).setMon m
      (if ((s.policyOf k).mon m).tripDelay = 0 then { (s.drop k).mon m with state := .tripped, timer := none }
      else { (s.drop k).mon m with state := .alert, timer := some (.left ((s.policyOf k).mon m).tripDelay) })).monitors := by
  unfold alertOrTrip
  simp only
  split
  · exact trip_monitors k m s
  · simp

/-- R68, R79: the start of a recovery. -/
theorem startRecovery_monitors (k : DropNo) (m : Monitor) (s : State) :
    ((startRecovery k m s).drop k).monitors = ((s.drop k).setMon m
      (if ((s.policyOf k).mon m).recovery = 0 then { (s.drop k).mon m with state := .clear, timer := none }
      else { (s.drop k).mon m with state := .recovering,
                                   timer := some (.left ((s.policyOf k).mon m).recovery) })).monitors := by
  unfold startRecovery recovered clearMonitor
  simp only
  split <;> simp

/-- R64 to R69: all that the value of a condition does to the monitors of its drop. -/
theorem setCondition_monitors (running : Bool) (k : DropNo) (m : Monitor) (v : Bool) (s : State) :
    ((setCondition running k m v s).drop k).monitors =
      ((s.drop k).setMon m (afterChange ((s.policyOf k).mon m) running ((s.drop k).mon m) v)).monitors := by
  unfold setCondition afterChange
  by_cases hv : ((s.drop k).mon m).condition = v
  · simp [hv]
  · cases running with
    | false => simp [hv]
    | true =>
      cases v <;> cases hx : ((s.drop k).mon m).state <;>
        simp [hv, hx, onConditionTrue, onConditionFalse, afterTrue, afterFalse, clearMonitor,
          alertOrTrip_monitors] <;>
        repeat (split <;> simp_all [startRecovery_monitors])

/-- R2, R3, R146: which line frames arrive. -/
theorem arrives_iff (f : LineFrame) (s : State) : arrives f s = true ↔ Arrives f s := by
  simp [arrives, State.fallsWithReset, Arrives, and_assoc]

/-- R3: a frame that a reset came upon is nothing to the part. -/
theorem dropArrival_of_not_arrives {f : LineFrame} {s : State} (k : DropNo) (h : ¬ Arrives f s) :
    dropArrival k f s = s := by
  simp [dropArrival, arrives_iff, h]

theorem trunkArrival_of_not_arrives {f : LineFrame} {s : State} (h : ¬ Arrives f s) : trunkArrival f s = s := by
  simp [trunkArrival, arrives_iff, h]

end Sys2Proof.Machine
end

