-- ==== Sys2Proof/WellFormed.lean ====
section
/-! DEFINITION. Which commands the surroundings can give. -/
namespace Sys2Proof

/-- R2: line activity too short to yield one whole octet is not a frame and produces no arrival. The last octet of a
frame comes after its start, and the reset count only grows (log 10). -/
def LineFrame.wellFormed (f : LineFrame) : Bool := !f.octets.isEmpty && decide (f.begun ≤ f.ended)

/-- A command is well formed when it can happen at all. R2 limits the arrivals, and R16 the release
(the reset is released when the supply is stable and RESET_N is high). Every other row is limited by its
operands' types alone. -/
def Instr.wellFormed : Instr → Bool
  | .dropArrival _ f => f.wellFormed
  | .trunkArrival f => f.wellFormed
  | .powerOnReset => true
  | .lineReset _ => true
  | .endOfStartUp _ => true
  | .dropTransmissionCompletion _ => true
  | .trunkTransmissionCompletion => true
  | .dropTransmitterStart _ => true
  | .grantDecision => true
  | .millisecondTick _ => true
  | .presenceChangeAccepted _ => true
  | .rateCreditFull _ => true
  | .silenceLimitReached _ => true
  | .delayTimerExpiry _ _ => true
  | .recoveryTimerExpiry _ _ => true
  | .secondBoundary => true
  | .probationLimitReached _ => true
  | .decayTimerExpiry _ => true
  | .latchHoldExpiry _ => true
  | .managementLossExpiry => true
  | .holdoffExpiry => true
  | .getInfo | .readSettings | .writeSettings | .readMap | .writeMapHeader | .writeMapEntry
  | .applyMap | .readPolicy | .writePolicy | .readClass | .writeClass | .readDrop | .hold
  | .recoverLatch | .recoverBarred | .recoverMonitor | .injectErr | .injectHeartbeat
  | .readEvents | .ackAllEvents | .readCounters | .clearCounters | .reset | .unknownCommand => true
  | .resetRelease supplyStable resetNHigh => supplyStable && resetNHigh

end Sys2Proof
end

