-- ==== Sys2Proof/Tests/Slice0.lean ====
section
/-! SUPPORT. Small tests of single steps, the smoke test of WellFormed, and for each statement with hypotheses a
concrete state and operands that meet them (`witness_<statement>…`). -/
set_option Elab.async false
namespace Sys2Proof.Tests
open Sys2Proof Sys2Proof.Machine Sys2Proof.Safety

/-! ### Small states -/

/-- A policy with every monitor enabled. -/
def watched : Policy :=
  let on : MonitorPolicy := { MonitorPolicy.default with enable := true, tripDelay := 5, recovery := 7 }
  { Policy.default with err := on, rate := on, sil := on, stat := on, latchLimit := 2 }

/-- The watched policy without delays. -/
def hasty : Policy :=
  let on : MonitorPolicy := { MonitorPolicy.default with enable := true }
  { Policy.default with err := on, rate := on, sil := on, stat := on, latchLimit := 1, latchHold := 9 }

/-- Drop 0 holds 0001h to 0010h under policy 1, drop 1 holds 0011h to 0014h under policy 0. -/
def plan : DropMap :=
  { header := { planeBase := 0x0001, own := 0xFFE0, controller := 0xFFF0 }
    entries := ((DropMap.atReset 0).entries.set 0 { sizeCode := 4, policy := 1 }).set 1
      { sizeCode := 2, policy := 0 } }

/-- Change drop 0. -/
def at0 (f : DropState → DropState) (s : State) : State := s.modDrop 0 f

/-- A running part with the plan in force, drop 0 ADMITTED and drop 1 in PROBATION; nothing is due. -/
def base : State :=
  ({ State.reset with
      staging := plan, active := plan, policies := (State.reset.policies.set 1 watched).set 2 hasty
      classes := State.reset.classes.set 0 { valid := true, low := 0x80, high := 0xFF, cls := .fault }
    }.modDrop 0 fun d => { d with admission := .admitted }).modDrop 1 fun d => { d with admission := .probation }

/-- The base with drop 0 under the policy without delays. -/
def quick : State := { base with policies := base.policies.set 1 hasty }

/-- The base in FALLBACK. -/
def lost (o : FallbackOption) : State :=
  { base with fallback := some o
              settings := { base.settings with timeout := 3600, fallbackOption := o, fallbackPolicy := 1 } }

/-- The base with one command waiting. -/
def asked (payload : List Byte) : State := { base with commandQueue := [{ src := 0xFFF0, payload := payload }] }

/-- The command of `asked`. -/
def command (payload : List Byte) : Command := { src := 0xFFF0, payload := payload }

def line (l : List Byte) : LineFrame := { octets := l, violation := false, begun := 0, ended := 0 }

/-- A DATA frame of drop 0's node, `n` payload octets. -/
def data (n : Nat) : LineFrame := line (buildFrame 0xFFF0 0x0001 0x01 (List.replicate n 0))

/-- A HEARTBEAT of drop 0's node. -/
def beat (code : Byte) : LineFrame := line (buildFrame 0xFFF0 0x0001 0x02 [code])

/-- A frame from the trunk. -/
def fromTrunk (dest src : Addr) (kind : Byte) (payload : List Byte) : LineFrame :=
  line (buildFrame dest src kind payload)

/-- A frame held in a queue. -/
def held : HeldFrame :=
  { octets := (data 0).octets, cls := classify .trunk base.active.inRange (receive (data 0)) }

/-- 300 octets that end in their check. -/
def long : List Byte :=
  let l : List Byte := List.replicate 298 7
  l ++ octets16 (crc16 l)

/-- Whether the command leads from `s` to a next state with a property. -/
def leadsTo (i : Instr) (s : State) (p : State → Bool) : Bool :=
  match exec i s with
  | .next t => p t
  | .fault _ => false
  | .refused _ => false

/-- The part may take the command with this payload, a command of this row. -/
def takes (row : CommandRow) (payload : List Byte) (s : State) : Bool :=
  decide (s.phase = .running) && decide ((settleLinks s).commandQueue = [command payload]) &&
    decide ((settleLinks s).engine = .ready) && decide ((settleLinks s).responseQueue.length < 2) &&
    decide (rowOf payload = row)

theorem takeable_of_takes {row : CommandRow} {payload : List Byte} {s : State} (h : takes row payload s = true) :
    Takeable row s (command payload) [] := by
  simp only [takes, Bool.and_eq_true, decide_eq_true_eq] at h
  exact ⟨h.1.1.1.1, h.1.1.1.2, h.1.1.2, h.1.2, h.2⟩

/-! ### WellFormed

An arrival brings at least one octet (section 1.1, R2); a release comes when both hold conditions have ended (R16). -/

theorem test_wellFormed_dropArrival_needs_octet : (Instr.dropArrival 0 (line [])).wellFormed = false := by decide
theorem test_wellFormed_arrival_ends_after_its_start : (Instr.dropArrival 0 { line [1] with begun := 1 }).wellFormed = false := by
  decide
theorem test_wellFormed_trunkArrival_needs_octet : (Instr.trunkArrival (line [])).wellFormed = false := by decide
theorem test_wellFormed_release_needs_supply : (Instr.resetRelease false true).wellFormed = false := by decide
theorem test_wellFormed_release_needs_line : (Instr.resetRelease true false).wellFormed = false := by decide
theorem test_wellFormed_accepts : (Instr.dropArrival 0 (line [1])).wellFormed = true ∧
    (Instr.trunkArrival (line [1])).wellFormed = true ∧ (Instr.resetRelease true true).wellFormed = true := by
  decide

/-! ### Frames -/

/-- R7: the published check value, over the nine octets 31h to 39h, of the CRC with polynomial 1021h, start FFFFh and no
inversion. -/
theorem test_crc16 : crc16 [0x31, 0x32, 0x33, 0x34, 0x35, 0x36, 0x37, 0x38, 0x39] = 0x29B1 := by decide +kernel

/-- Section 1.2, the table of the field frame: DEST, SRC, KIND, LEN, payload, CHECK, high octets first. -/
theorem test_line_octets : buildFrame 0x0005 0x0102 0x01 [0xAA] =
    [0x00, 0x05, 0x01, 0x02, 0x01, 0x01, 0xAA] ++
      octets16 (crc16 [0x00, 0x05, 0x01, 0x02, 0x01, 0x01, 0xAA]) := by decide +kernel

/-! ### The Drop Map and the class table -/

/-- The map of section 2.2: plane base 0100h, drop 0 of code 4, drop 2 of code 6, drop 3 of code 3. -/
def smallMap : DropMap :=
  { header := { planeBase := 0x0100, own := 0x0F00, controller := 0x0040 }
    entries := (((DropMap.atReset 0).entries.set 0 { sizeCode := 4, policy := 2 }).set 2
      { sizeCode := 6, policy := 2 }).set 3 { sizeCode := 3, policy := 2 } }

/-- Section 2.2, Example: bases of a small map. -/
theorem test_bases_of_a_small_map :
    (smallMap.base 0 = 0x0100 ∧ smallMap.base 1 = 0x0110 ∧ smallMap.base 2 = 0x0110 ∧ smallMap.base 3 = 0x0150 ∧
      smallMap.base 4 = 0x0158 ∧ smallMap.base 15 = 0x0158) ∧
    smallMap.owner 0x0110 = some 2 ∧ smallMap.owner 0x0158 = none ∧ smallMap.inRange 3 0x0150 = true := by
  decide +kernel

/-- A part whose drops 0, 2 and 3 are ADMITTED under the small map and this policy. -/
def segment (p : Policy) : State :=
  let s := { State.reset with
    staging := smallMap, active := smallMap, policies := State.reset.policies.set 2 p, trunkTx := some
      { octets := [], source := .notice } }
  [0, 2, 3].foldl (fun s k => s.modDrop k fun d => { d with admission := .admitted, credit := p.depth }) s

/-- Section 5.8, Example: the four entries of the class table; code 42 is DEGRADED, code 100 OK. -/
def exampleClasses : Vector ClassEntry 16 :=
  let entry : Nat → Nat → StatusClass → ClassEntry := fun low high c =>
    { valid := true, low := BitVec.ofNat 8 low, high := BitVec.ofNat 8 high, cls := c }
  (((State.reset.classes.set 0 (entry 0 9 .ok)).set 1 (entry 40 49 .degraded)).set 2 (entry 60 69 .fault)).set 3
    (entry 40 44 .fault)

theorem test_class_of_codes : let s := { State.reset with classes := exampleClasses }
    s.classOf 42 = .degraded ∧ s.classOf 100 = .ok ∧ s.classOf 62 = .fault := by decide +kernel

/-! ### Single steps

Each theorem names the rule or the worked example of the spec that its expected values are read from. -/

/-- The payload of the response placed last: code, tag, status, results (section 7.5). -/
def answered (t : State) : List Byte :=
  match t.responseQueue.getLast? with
  | some r => (r.octets.drop 6).dropLast.dropLast
  | none => []

/-- R16, R23. -/
theorem test_powerOnReset : leadsTo .powerOnReset base (fun t => t.phase = .held .powerOn ∧ t.active.size 0 = 0) =
    true := by decide +kernel

/-- R16: RESET_N low for less than 10 us is ignored; for 10 us it is a line reset. -/
theorem test_lineReset : leadsTo (.lineReset 9) base (fun t => t.phase = .running) = true ∧
    leadsTo (.lineReset 10) base (fun t => t.phase = .held .line) = true := by decide +kernel

/-- Section 11.1: strap value 3 gives the own address FFE3h; the cause is recorded (R16, R147). -/
theorem test_endOfStartUp : leadsTo (.endOfStartUp 3) { base with phase := .startUp .powerOn } (fun t =>
    t.active.header.own = 0xFFE3 ∧ t.active.header.planeBase = 0x0001 ∧ t.lastCause = .powerOn ∧ t.resets = 1) = true := by
  decide +kernel

/-- R16: both hold conditions must have ended. -/
theorem test_resetRelease : ∀ stable high : Bool,
    leadsTo (.resetRelease stable high) { base with phase := .held .line } (fun t =>
      t.phase = if stable && high then .startUp .line else .held .line) = true := by decide +kernel

/-- Section 3.2, Example: drop 3 in PROBATION with RATE enabled, a credit of 300 and one injection pending. -/
def inProbation : State :=
  (segment { Policy.default with rate := { MonitorPolicy.default with enable := true } }).modDrop 3 fun d =>
    { d with admission := .probation, credit := 300, injection := 1, silence := 77 }

/-- A frame of that example. -/
def fromDrop3 (kind : Byte) (len : Nat) (src : Addr) : LineFrame :=
  line (buildFrame 0x0040 src kind (List.replicate len 0))

set_option maxRecDepth 100000 in
/-- Section 3.2, Example: arrivals at a drop in probation, its five rows from the state that each row finds. -/
theorem test_dropArrival_at_a_drop_in_probation :
    let clean := inProbation.modDrop 3 fun d => { d with injection := 0 }
    let poor := clean.modDrop 3 fun d => { d with credit := 200 }
    leadsTo (.dropArrival 3 (fromDrop3 0x02 2 0x0151)) inProbation (fun t =>
      (t.drop 3).count .faulty = 1 ∧ (t.drop 3).lastFaulty = some .injected ∧ (t.drop 3).injection = 0 ∧
        (t.drop 3).silence = 77 ∧ (t.drop 3).errWindow = [.faulty]) = true ∧
    leadsTo (.dropArrival 3 (fromDrop3 0x02 2 0x0151)) clean (fun t =>
      (t.drop 3).count .heartbeats = 1 ∧ (t.drop 3).silence = 0 ∧ (t.drop 3).errWindow = [.good]) = true ∧
    leadsTo (.dropArrival 3 (fromDrop3 0x01 92 0x0152)) clean (fun t =>
      (t.drop 3).count .gatedUp = 1 ∧ (t.drop 3).credit = 200) = true ∧
    leadsTo (.dropArrival 3 (fromDrop3 0x01 240 0x0152)) poor (fun t =>
      (t.drop 3).count .overrun = 1 ∧ (t.drop 3).credit = 200 ∧ ((t.drop 3).mon .rate).condition = true) = true ∧
    leadsTo (.dropArrival 3 (fromDrop3 0x01 4 0x0170)) poor (fun t =>
      (t.drop 3).count .faulty = 1 ∧ (t.drop 3).lastFaulty = some .source) = true := by decide +kernel

/-- Section 3.4, Example: a trip with frames in flight, on drop 3: the faulty arrival that trips ERR. -/
theorem test_dropArrival_trips_with_frames_in_flight :
    let err : MonitorPolicy := { MonitorPolicy.default with enable := true }
    let s := (segment { Policy.default with err := err, tripCount := 2 }).modDrop 3 fun d =>
      { d with errWindow := [.faulty], upQueue := [held], downQueue := [held, held], tx := some held }
    leadsTo (.dropArrival 3 (line [1, 2, 3, 4, 5, 6, 7, 8])) s (fun t =>
      (t.drop 3).upQueue = [] ∧ (t.drop 3).downQueue = [] ∧ (t.drop 3).tx = some held ∧
        (t.drop 3).count .faulty = 1 ∧ (t.drop 3).count .gatedUp = 1 ∧ (t.drop 3).count .gatedDown = 2 ∧
        (t.drop 3).count .trips = 1) = true := by decide +kernel

/-- Section 2.2, Example: 0110h is drop 2's, 0158h is nobody's (R36, R49). -/
theorem test_trunkArrival_routed :
    leadsTo (.trunkArrival (fromTrunk 0x0110 0x0040 0x01 [])) (segment .default) (fun t =>
      (t.drop 2).downQueue.length = 1 ∧ (t.drop 1).downQueue = []) = true ∧
    leadsTo (.trunkArrival (fromTrunk 0x0158 0x0040 0x01 [])) (segment .default) (fun t =>
      t.deviceCount .unrouted = 1) = true := by decide +kernel

/-- Section 7.2, Example: a burst of commands: C7 finds four commands waiting behind two responses. -/
theorem test_trunkArrival_lost_command :
    let r : Response := { octets := [1], isReset := false }
    leadsTo (.trunkArrival (fromTrunk 0x0F00 0x0040 0x10 [0x01, 7])) { segment .default with
      responseQueue := [r, r], commandQueue := List.replicate 4 (command [0x01, 1]) } (fun t =>
        t.commandQueue.length = 4 ∧ t.deviceCount .commandsLost = 1 ∧ t.deviceFlag .mgmtOverrun = true) = true := by
  decide +kernel

/-- Section 7.4, R3: a frame that a reset came upon, or that is older than a reset from outside, does not arrive after
it; the next one does. -/
theorem test_arrivals_that_a_reset_came_upon :
    let s := { base with resets := 1, trunkTx := some { octets := [], source := .notice } }
    let trunk := fromTrunk 0xFFFF 0xFFF0 0x01 []
    (∀ f ∈ [data 0, { data 0 with ended := 1 }], leadsTo (.dropArrival 0 f) s (fun t => t = s) = true) ∧
    (let r := { s with lastCause := .command }
     leadsTo (.dropArrival 0 { data 0 with ended := 1 }) r (fun t => t = r) = true) ∧
    leadsTo (.trunkArrival trunk) s (fun t => t = s) = true ∧
    leadsTo (.dropArrival 0 { data 0 with begun := 1, ended := 1 }) s (fun t => (t.drop 0).upQueue.length = 1) = true ∧
    leadsTo (.trunkArrival { trunk with begun := 1, ended := 1 }) s (fun t => (t.drop 0).tx = none ∧
      (t.drop 0).downQueue.length = 1) = true := by decide +kernel

/-- R146: a command that falls together with the completion of the RESET response, in both orders: taken second, it is
queued at the READY engine and taken; taken first, it is discarded by the reset. -/
theorem test_command_falls_together_with_the_reset :
    let f := fromTrunk 0xFFE0 0xFFF0 0x10 [0x01, 9]
    let s := { base with engine := .resetPending, trunkTx := some { octets := [1], source := .response true } }
    leadsTo .trunkTransmissionCompletion s (fun t => t.resets = 1 ∧
      leadsTo (.trunkArrival f) t (fun u => u.commandQueue = [command [0x01, 9]] ∧ u.engine = .ready ∧
        leadsTo .getInfo u (fun v => v.commandQueue = [] ∧ (answered v).take 3 = [0x01, 9, 0]))) = true ∧
    leadsTo (.trunkArrival f) s (fun t => t.commandQueue = [command [0x01, 9]] ∧
      leadsTo .trunkTransmissionCompletion t (fun u => u.commandQueue = [] ∧ u.deviceCount .commands = 0)) = true := by
  decide +kernel

/-- R5, R37. -/
theorem test_dropTransmitterStart : leadsTo (.dropTransmitterStart 0)
    (at0 (fun d => { d with downQueue := [held] }) base) (fun t =>
      (t.drop 0).tx = some held ∧ (t.drop 0).downQueue = []) = true := by decide +kernel

/-- R5, R50. -/
theorem test_dropTransmissionCompletion : leadsTo (.dropTransmissionCompletion 0)
    (at0 (fun d => { d with tx := some held }) base) (fun t =>
      (t.drop 0).tx = none ∧ (t.drop 0).count .downForwarded = 1) = true := by decide +kernel

/-- R164, with the default holdoff of 100 ms (R135). -/
theorem test_trunkTransmissionCompletion : leadsTo .trunkTransmissionCompletion
    { base with trunkTx := some { octets := [], source := .notice } } (fun t => t.holdoff = some (.left 100)) =
      true := by decide +kernel

/-- Section 3.5, Example: arbitration after a reset: the searches after the grants to drops 5 and 14. -/
theorem test_grantDecision :
    let waiting : State → State := fun s => s.modDrop 2 fun d => { d with upQueue := [held, held] }
    leadsTo .grantDecision
      ((waiting { base with pointer := 5 }).modDrop 14 fun d => { d with upQueue := [held] }) (fun t =>
        t.pointer = 14 ∧ t.trunkTx = some { octets := held.octets, source := .upstream 14 }) = true ∧
    leadsTo .grantDecision (waiting { base with pointer := 14 }) (fun t =>
        t.pointer = 2 ∧ (t.drop 2).upQueue.length = 1) = true := by decide +kernel

/-- Section 9.6, Example, time 0: the notice lists drop 3 alone, no device flag and NORMAL. -/
theorem test_grantDecision_notice :
    leadsTo .grantDecision (raiseDrop 3 (.trip .err) { segment .default with trunkTx := none }) (fun t =>
      t.noticePending = false ∧
        (t.trunkTx.map fun x => x.octets.take 10) = some [0, 0x40, 0x0F, 0, 0x12, 4, 0, 0x08, 0, 0]) = true := by
  decide +kernel

/-- Section 4.5, Example: a credit of 8 grows by 2 at a tick; R15: the first sample sets the level; R76. -/
theorem test_millisecondTick :
    let s := (segment { Policy.default with depth := 1000, refill := 2 }).modDrop 3 fun d => { d with credit := 8 }
    leadsTo (.millisecondTick 8) s (fun t =>
      (t.drop 3).credit = 10 ∧ (t.drop 3).level = .present ∧ (t.drop 2).level = .absent ∧
        (t.drop 3).silence = 1 ∧ (t.drop 1).silence = 0) = true := by decide +kernel

/-- Section 6.7, Example, time 52.7: the acceptance of PRESENT with absence-seen set releases drop 3. -/
theorem test_presenceChangeAccepted : leadsTo (.presenceChangeAccepted 3)
    ((segment .default).modDrop 3 fun d =>
      { d with admission := .latched, absenceSeen := true, repeatCount := 3
               candidate := some { target := .present, remaining := .expired } }) (fun t =>
      (t.drop 3).admission = .probation ∧ (t.drop 3).repeatCount = 0 ∧ (t.drop 3).flag .presence = true ∧
        (t.drop 3).flag .release = true ∧ t.upGate 3 = false ∧ t.downGate 3 = true) = true := by decide +kernel

/-- Section 4.5, Example, tick 620: the credit is at the depth of 1000, and RATE recovers for 300 ms. -/
theorem test_rateCreditFull :
    let rate : MonitorPolicy := { MonitorPolicy.default with enable := true, tripDelay := 100, recovery := 300 }
    leadsTo (.rateCreditFull 3) ((segment { Policy.default with rate := rate, depth := 1000 }).modDrop 3 fun d =>
      d.setMon .rate { state := .tripped, condition := true, timer := none }) (fun t =>
        ((t.drop 3).mon .rate) = { state := .recovering, condition := false, timer := some (.left 300) }) = true := by
  decide +kernel

/-- Section 11.2, time 41.800: the silence count reaches 2000 and SIL, without a delay, trips; latch no. -/
theorem test_silenceLimitReached :
    let sil : MonitorPolicy := { MonitorPolicy.default with enable := true, latch := false }
    leadsTo (.silenceLimitReached 3) ((segment { Policy.default with sil := sil, silenceLimit := 2000 }).modDrop 3
      fun d => { d with admission := .latched, silence := 2000, repeatCount := 3 }) (fun t =>
        ((t.drop 3).mon .sil).state = .tripped ∧ (t.drop 3).flag (.trip .sil) = true ∧
          (t.drop 3).repeatCount = 3) = true := by decide +kernel

/-- The policy of section 4.4, Example: an ERR window with hysteresis. -/
def windowed : Policy :=
  { Policy.default with
    err := { MonitorPolicy.default with enable := true, tripDelay := 50, recovery := 200, action := .up }
    window := 4, tripCount := 3, releaseCount := 1 }

/-- Section 4.4, Example, time 50: the delay expiry trips ERR; the upstream gate closes and its queue is purged. -/
theorem test_delayTimerExpiry : leadsTo (.delayTimerExpiry 3 .err)
    ((segment windowed).modDrop 3 fun d =>
      { d.setMon .err { state := .alert, condition := true, timer := some .expired } with upQueue := [held] })
    (fun t => ((t.drop 3).mon .err).state = .tripped ∧ t.upGate 3 = false ∧ t.downGate 3 = true ∧
      (t.drop 3).upQueue = [] ∧ (t.drop 3).count .gatedUp = 1) = true := by decide +kernel

/-- Section 4.4, Example, time 260: the recovery expiry raises CLEARED and reopens the upstream gate. -/
theorem test_recoveryTimerExpiry : leadsTo (.recoveryTimerExpiry 3 .err)
    ((segment windowed).modDrop 3 fun d =>
      d.setMon .err { state := .recovering, condition := false, timer := some .expired }) (fun t =>
      ((t.drop 3).mon .err).state = .clear ∧ (t.drop 3).flag (.cleared .err) = true ∧ t.upGate 3 = true) = true := by
  decide +kernel

/-- Section 10.2, Example: a clear against a boundary, the boundary taken first: the copy. -/
theorem test_secondBoundary : leadsTo .secondBoundary
    ({ base with boundaryDue := true, settings := { base.settings with snapshot := true } }.modDrop 6 fun d =>
      { d with live := d.live.set 0 120, snap := d.snap.set 0 300 }) (fun t =>
      (t.drop 6).count .upForwarded = 0 ∧ (t.drop 6).snap[0] = 120) = true := by decide +kernel

/-- R111: elapsed has reached the limit of 3; at 2 it has not. -/
theorem test_probationLimitReached : ∀ n ∈ [2, 3], leadsTo (.probationLimitReached 1)
    ({ base with policies := base.policies.set 0 { Policy.default with probationLimit := 3 } }.modDrop 1 fun d =>
      { d with elapsed := n }) (fun t =>
        (t.drop 1).admission = if n = 3 then .barred else .probation) = true := by decide +kernel

/-- Section 6.7, Example, times 19 and 37: with no monitor closing the counter falls to 1 and the timer starts
again with 10 s; in LATCHED it stops. -/
theorem test_decayTimerExpiry :
    let s := fun (a : Admission) (n : Nat) => (segment { Policy.default with decayInterval := 10 }).modDrop 3 fun d =>
      { d with admission := a, repeatCount := n, decay := some .expired }
    leadsTo (.decayTimerExpiry 3) (s .admitted 2) (fun t =>
      (t.drop 3).repeatCount = 1 ∧ (t.drop 3).decay = some (.left 10)) = true ∧
    leadsTo (.decayTimerExpiry 3) (s .latched 3) (fun t =>
      (t.drop 3).repeatCount = 3 ∧ (t.drop 3).decay = none) = true := by decide +kernel

/-- R120. -/
theorem test_latchHoldExpiry : leadsTo (.latchHoldExpiry 0)
    (at0 (fun d => { d with admission := .latched, latchTimer := some .expired }) base) (fun t =>
      (t.drop 0).admission = .probation ∧ (t.drop 0).flag .release) = true := by decide +kernel

/-- Section 8.2, Example: entry under POLICY. Drop 0 is ADMITTED with ERR in RECOVERING, drop 2 in PROBATION with a
run count of 2 and a silence count of 350; policy 7 disables ERR and enables SIL at 200 ms with G 2. -/
theorem test_managementLossExpiry :
    let on : MonitorPolicy := { MonitorPolicy.default with enable := true }
    let two : Policy := { Policy.default with err := { on with recovery := 500 }, goodRun := 4 }
    let seven : Policy := { Policy.default with goodRun := 2, sil := on, silenceLimit := 200 }
    let s := ({ segment two with
        policies := (segment two).policies.set 7 seven, lossTimer := some .expired
        settings := { base.settings with timeout := 30, fallbackOption := .policy, fallbackPolicy := 7 }
      }.modDrop 0 fun d => d.setMon .err { state := .recovering, condition := false, timer := some (.left 300) }
      ).modDrop 2 fun d => { d with admission := .probation, runCount := 2, silence := 350 }
    leadsTo .managementLossExpiry s (fun t =>
      t.fallback = some .policy ∧ t.deviceFlag .fallbackEnter = true ∧
        ((t.drop 0).mon .err).state = .clear ∧ (t.drop 0).flag (.cleared .err) = true ∧
        ((t.drop 2).mon .sil).state = .tripped ∧ (t.drop 2).flag (.trip .sil) = true ∧
        (t.drop 2).runCount = 0 ∧ (t.drop 2).admission = .probation) = true := by decide +kernel

/-- R75, R88: the credit that the tick filled to the old depth has made RATE false before the fallback policy raises the
depth (the order is the model's choice, log 22). -/
theorem test_managementLossExpiry_after_full_credit :
    let s := at0 (fun d => { d.setMon .rate { state := .tripped, condition := true, timer := none } with
      credit := (base.policyOf 0).depth }) { base with
        policies := base.policies.set 7 { watched with depth := 8000 }, lossTimer := some .expired
        settings := { base.settings with timeout := 30, fallbackOption := .policy, fallbackPolicy := 7 } }
    leadsTo .managementLossExpiry s (fun t => t.fallback = some .policy ∧ (t.policyOf 0).depth = 8000 ∧
      ((t.drop 0).mon .rate).condition = false ∧ (t.drop 0).credit = 4096) = true := by decide +kernel

/-- Section 9.6, Example, time 100: the holdoff timer stops. -/
theorem test_holdoffExpiry : leadsTo .holdoffExpiry { base with holdoff := some .expired } (fun t =>
    t.holdoff = none) = true := by decide +kernel

/-- R134 and section 11.1: SRC FFE3h there, FFE0h here; vendor, part and revision, POWER_ON, NORMAL, own address. -/
theorem test_getInfo : leadsTo .getInfo (asked [0x01, 0x55]) (fun t =>
    answered t = [0x01, 0x55, 0x00, 0x2E, 0x91, 0x10, 0x16, 0x03, 0x01, 0x00, 0xFF, 0xE0] ∧
      (t.responseQueue.map fun r => r.octets.take 6) = [[0xFF, 0xF0, 0xFF, 0xE0, 0x11, 12]]) = true := by
  decide +kernel

/-- The model's choice (log 5): a taking row whose command is not at the head takes nothing. -/
theorem test_getInfo_of_another_command : leadsTo .getInfo (asked [0x7F, 0x01]) (fun t => t = asked [0x7F, 0x01]) =
    true := by decide +kernel

/-- R135 (the defaults) in the layout of section 7.5. -/
theorem test_readSettings : leadsTo .readSettings (asked [0x02, 9]) (fun t =>
    answered t = [0x02, 9, 0, 0, 0, 0x00, 7, 16, 0, 0, 0, 0, 0, 100]) = true := by decide +kernel

/-- Section 11.1: a timeout of 10 s, option ISOLATE; the loss timer starts with 10 s at the taking (R149). -/
theorem test_writeSettings : leadsTo .writeSettings (asked [0x03, 9, 0, 10, 0x01, 7, 16, 0, 0, 0, 0, 0, 100]) (fun t =>
    answered t = [0x03, 9, 0] ∧ t.settings.timeout = 10 ∧ t.settings.fallbackOption = .isolate ∧
      t.lossTimer = some (.left 10)) = true := by decide +kernel

/-- Section 2.2, Example, in the layout of section 7.5: drop 2 of the active map, and drop 1, which has no range. -/
theorem test_readMap :
    leadsTo .readMap { segment .default with commandQueue := [command [0x10, 9, 1, 2]] } (fun t =>
      answered t = [0x10, 9, 0, 6, 2, 0x01, 0x10, 0x01, 0x4F]) = true ∧
    leadsTo .readMap { segment .default with commandQueue := [command [0x10, 9, 1, 1]] } (fun t =>
      answered t = [0x10, 9, 0, 0, 0, 0x01, 0x10]) = true := by decide +kernel

/-- Section 11.1: WRITE_MAP_HEADER 0100h, 0F00h, 0040h changes the staging header alone. -/
theorem test_writeMapHeader : leadsTo .writeMapHeader (asked [0x11, 9, 0x01, 0x00, 0x0F, 0x00, 0x00, 0x40]) (fun t =>
    t.staging.header = { planeBase := 0x0100, own := 0x0F00, controller := 0x0040 } ∧ t.active = plan) = true := by
  decide +kernel

/-- Section 11.1: WRITE_MAP_ENTRY drop 1, code 6, policy 1; R20: size code 1 is refused. -/
theorem test_writeMapEntry :
    leadsTo .writeMapEntry (asked [0x12, 9, 1, 6, 1]) (fun t =>
      t.staging.entries[1] = { sizeCode := 6, policy := 1 } ∧ t.active = plan) = true ∧
    leadsTo .writeMapEntry (asked [0x12, 9, 1, 1, 1]) (fun t =>
      answered t = [0x12, 9, 0x04] ∧ t.staging = plan) = true := by decide +kernel

/-- Section 2.6, Example: one drop resized: drop 0 to code 5, or drop 3 to code 5. -/
theorem test_applyMap :
    let s := fun (k : DropNo) => { segment .default with
      commandQueue := [command [0x13, 9]]
      staging := { smallMap with entries := smallMap.entries.set k { sizeCode := 5, policy := 2 } } }
    leadsTo .applyMap (s 0) (fun t => answered t = [0x13, 9, 0] ∧
      ∀ k ∈ [0, 2, 3], (t.drop k).admission = .probation) = true ∧
    leadsTo .applyMap (s 3) (fun t => (t.drop 3).admission = .probation ∧ (t.drop 0).admission = .admitted ∧
      (t.drop 2).admission = .admitted ∧ (t.drop 1).admission = .vacant) = true := by decide +kernel

/-- Section 2.5, R27: an own address inside a range answers BAD_MAP with OWN_IN_RANGE, codes 05h and 03h. -/
theorem test_applyMap_refused : leadsTo .applyMap { segment .default with
      commandQueue := [command [0x13, 9]]
      staging := { smallMap with header := { smallMap.header with own := 0x0157 } } } (fun t =>
    answered t = [0x13, 9, 0x05, 0x03] ∧ t.active = smallMap) = true := by decide +kernel

/-- The default record of R61 in the layout of section 7.5. -/
theorem test_readPolicy : leadsTo .readPolicy (asked [0x20, 9, 0]) (fun t =>
    answered t = [0x20, 9, 0] ++
      [0, 8, 2, 0, 0, 0, 0, 0, 3, 1, 1] ++ [0, 0x10, 0x00, 0, 64, 0, 0, 0, 0, 3, 1, 1] ++
      [0, 0x03, 0xE8, 0, 0, 0, 0, 3, 1, 1] ++ [0, 10, 8, 0, 0, 0, 0, 3, 1, 1] ++
      [0, 0, 60, 0, 0, 1, 3, 0, 0]) = true := by decide +kernel

/-- Section 4.10, Example: rewriting a policy under a running drop; the two policies. -/
def beforeWrite : Policy :=
  let on : MonitorPolicy := { MonitorPolicy.default with enable := true }
  { Policy.default with
    err := { on with recovery := 400, action := .up }, rate := { on with tripDelay := 80 }
    sil := { on with tripDelay := 5 }, silenceLimit := 2000, stat := { on with action := .up, auto := false } }
def afterWrite : Policy :=
  { beforeWrite with
    err := { beforeWrite.err with recovery := 1000 }, rate := { beforeWrite.rate with enable := false }
    sil := { beforeWrite.sil with tripDelay := 0 }, silenceLimit := 500
    stat := { beforeWrite.stat with auto := true } }

/-- Section 4.10, Example: the four monitors after the write, the flags, and the downstream purge. -/
theorem test_writePolicy :
    let s := { segment beforeWrite with commandQueue := [command ([0x21, 9, 2] ++ encodePolicy afterWrite)] }
    leadsTo .writePolicy (s.modDrop 3 fun d =>
      { ((d.setMon .err { state := .recovering, condition := false, timer := some (.left 150) }).setMon .rate
          { state := .alert, condition := true, timer := some (.left 30) }).setMon .stat
          { state := .tripped, condition := false, timer := none } with
        silence := 700, credit := 3000, downQueue := [held], tx := some held }) (fun t =>
      (t.drop 3).monitors.toList = [
        { state := .recovering, condition := false, timer := some (.left 1000) },
        { state := .clear, condition := true, timer := none },
        { state := .tripped, condition := true, timer := none },
        { state := .tripped, condition := false, timer := none }] ∧
      (t.drop 3).flags.toList.count true = 1 ∧ (t.drop 3).flag (.trip .sil) = true ∧ (t.drop 3).repeatCount = 1 ∧
      (t.drop 3).downQueue = [] ∧ (t.drop 3).count .gatedDown = 1 ∧ (t.drop 3).admission = .admitted) = true := by
  decide +kernel

/-- Section 5.8, Example: entry 1 in the layout of section 7.5. -/
theorem test_readClass : leadsTo .readClass { asked [0x22, 9, 1] with classes := exampleClasses } (fun t =>
    answered t = [0x22, 9, 0, 1, 40, 49, 2]) = true := by decide +kernel

/-- Section 5.8, Example: entry 3 is written; R97 refuses a low code above the high code. -/
theorem test_writeClass :
    leadsTo .writeClass (asked [0x23, 9, 3, 1, 40, 44, 3]) (fun t =>
      t.classes[3] = { valid := true, low := 40, high := 44, cls := .fault }) = true ∧
    leadsTo .writeClass (asked [0x23, 9, 3, 1, 44, 40, 3]) (fun t => answered t = [0x23, 9, 0x04] ∧
      t.classes = base.classes) = true := by decide +kernel

/-- Section 11.1: drop 0 after the apply and one heartbeat with code 0, in the layout of section 7.5; the credit is
2000, the presence PRESENT. -/
theorem test_readDrop :
    let s := { segment { Policy.default with depth := 2000 } with commandQueue := [command [0x30, 9, 0]] }
    leadsTo .readDrop (s.modDrop 0 fun d =>
      { d with admission := .probation, level := .present, history := [0], runCount := 1, errWindow := [.good] }) (fun t =>
      answered t = [0x30, 9, 0] ++ [1, 0, 1, 0, 0, 2, 0, 0, 0, 0, 0, 0, 0, 0, 0, 1, 0x07, 0xD0, 0, 0, 0, 1, 0, 1, 0, 0,
        0, 1, 0, 0, 0, 0]) = true := by decide +kernel

/-- R124, R140: an upstream SET and a downstream KEEP; a VACANT drop answers NOT_APPLICABLE, code 06h. -/
theorem test_hold :
    leadsTo .hold (asked [0x31, 9, 0, 1, 0]) (fun t => (t.drop 0).upHold = true ∧ (t.drop 0).downHold = false ∧
      t.upGate 0 = false ∧ t.downGate 0 = true) = true ∧
    leadsTo .hold (asked [0x31, 9, 2, 1, 0]) (fun t => answered t = [0x31, 9, 0x06]) = true := by decide +kernel

/-- R119: a LATCHED drop is released; an ADMITTED one answers NOT_APPLICABLE. -/
theorem test_recoverLatch :
    leadsTo .recoverLatch (at0 (fun d => { d with admission := .latched }) (asked [0x32, 9, 0, 0, 0])) (fun t =>
      (t.drop 0).admission = .probation ∧ (t.drop 0).flag .release = true) = true ∧
    leadsTo .recoverLatch (asked [0x32, 9, 0, 0, 0]) (fun t =>
      answered t = [0x32, 9, 0x06] ∧ (t.drop 0).admission = .admitted) = true := by decide +kernel

/-- R123: RECOVER BARRED acts on BARRED alone. -/
theorem test_recoverBarred : ∀ a ∈ [Admission.barred, .latched],
    leadsTo .recoverBarred (at0 (fun d => { d with admission := a }) (asked [0x32, 9, 0, 1, 0])) (fun t =>
      (t.drop 0).admission = if a = .barred then .probation else .latched) = true := by decide +kernel

/-- Section 4.10, Example: STAT, TRIPPED with a false condition, waits for RECOVER MONITOR 3 (R79). -/
theorem test_recoverMonitor : leadsTo .recoverMonitor (at0 (fun d =>
      d.setMon .stat { state := .tripped, condition := false, timer := none }) (asked [0x32, 9, 0, 2, 3])) (fun t =>
    ((t.drop 0).mon .stat) = { state := .recovering, condition := false, timer := some (.left 7) }) = true := by
  decide +kernel

/-- Section 10.4, Example: 2 and 15 injections make 16. -/
theorem test_injectErr : leadsTo .injectErr (at0 (fun d => { d with injection := 2 }) (asked [0x33, 9, 0, 0, 15])) (fun t =>
    answered t = [0x33, 9, 0] ∧ (t.drop 0).injection = 16) = true := by decide +kernel

/-- Section 5.8, Example, heartbeat 4, taken by injection (R101): code 3 after 3, 3, 62 is accepted with Q 5, P 3. -/
theorem test_injectHeartbeat :
    let stat : MonitorPolicy := { MonitorPolicy.default with enable := true, action := .up, latch := false }
    let p : Policy := { Policy.default with stat := stat, persistence := 5, acceptance := 3, goodRun := 6 }
    leadsTo .injectHeartbeat ({ segment p with
        classes := exampleClasses, commandQueue := [command [0x33, 9, 2, 1, 3]] }.modDrop 2 fun d =>
      { d with admission := .probation, history := [3, 3, 62], runCount := 3 }) (fun t =>
      (t.drop 2).history = [3, 3, 62, 3] ∧ (t.drop 2).accepted = some 3 ∧ (t.drop 2).runCount = 4 ∧
        (t.drop 2).flag .status = true ∧ ((t.drop 2).mon .stat).state = .clear) = true := by decide +kernel

/-- Section 9.6, Example, time 40: READ_EVENTS of drop 3 answers TRIP {ERR}, CLEARED {ERR} and clears them;
notice-pending stays. -/
theorem test_readEvents : leadsTo .readEvents
    (raiseDrop 3 (.cleared .err) (raiseDrop 3 (.trip .err) { segment .default with
      commandQueue := [command [0x40, 9, 3]] })) (fun t =>
    answered t = [0x40, 9, 0, 0, 1, 1, 0, 0, 0, 0, 0, 0, 0, 0] ∧ (t.drop 3).flags.toList.count true = 0 ∧
      t.noticePending = true) = true := by decide +kernel

/-- R158: every flag of every entry is clear, and notice-pending is as it was. -/
theorem test_ackAllEvents : leadsTo .ackAllEvents
    (raiseDevice .mapApplied (raiseDrop 3 .latch { segment .default with
      commandQueue := [command [0x41, 9]] })) (fun t =>
    (t.drop 3).flag .latch = false ∧ t.deviceFlag .mapApplied = false ∧ t.noticePending = true) = true := by
  decide +kernel

/-- R143, R170: the device LIVE bank includes the read itself; COMMANDS is the fourth counter. -/
theorem test_readCounters : leadsTo .readCounters (asked [0x50, 9, 0x10, 0]) (fun t =>
    answered t = [0x50, 9, 0, 0, 0, 0, 0, 0, 0, 0, 1, 0, 0, 0, 0]) = true := by decide +kernel

/-- Section 10.2, Example: a clear against a boundary, the clear taken first; R169: its own COMMANDS is cleared too. -/
theorem test_clearCounters : leadsTo .clearCounters ((asked [0x51, 9]).modDrop 6 fun d =>
      { d with live := d.live.set 0 120, snap := d.snap.set 0 300 }) (fun t =>
    (t.drop 6).count .upForwarded = 0 ∧ (t.drop 6).snap[0] = 0 ∧ t.deviceCount .commands = 0) = true := by
  decide +kernel

/-- R144. -/
theorem test_reset : leadsTo .reset (asked [0x7F, 0x01]) (fun t =>
    t.engine = .resetPending ∧ answered t = [0x7F, 0x01, 0] ∧ t.active = plan) = true := by decide +kernel

/-- R131: an unknown code answers UNKNOWN_COMMAND, code 01h; a payload of one octet answers BAD_LENGTH, code 02h. -/
theorem test_unknownCommand :
    leadsTo .unknownCommand (asked [0x7E, 0x01]) (fun t =>
      answered t = [0x7E, 0x01, 0x01] ∧ t.deviceCount .commandErrors = 1) = true ∧
    leadsTo .unknownCommand (asked [0x7E]) (fun t =>
      (answered t).getLast? = some 0x02 ∧ t.deviceCount .commandErrors = 1) = true := by decide +kernel

/-! ### Witnesses: steps, frames, resets -/

theorem witness_StepRunsTheFrontCommand :
    { base with pending := [.getInfo, .grantDecision] }.pending = .getInfo :: [.grantDecision] := rfl

theorem witness_EmptyQueueTakesWhatIsDue :
    base.pending = [] ∧ Quiet base ∧ base.expired = false ∧
    { base with phase := .held .line }.phase ≠ .running := by
  unfold Quiet LinksQuiet; decide +kernel

theorem witness_EveryCommandCompletes :
    isResetRow .getInfo = false ∧ { base with phase := .held .line }.phase ≠ .running := by decide

theorem witness_RowsNotDue : base.phase = .running ∧
    (((settle base).drop 0).candidate.any fun c => c.remaining == .expired) = false ∧
    (settle base).rateFullDue 0 = false ∧ (settle base).silenceDue 0 = false ∧
    (settle base).timerDue 0 .err .alert = false ∧ (settle base).timerDue 0 .err .recovering = false ∧
    (settle base).boundaryDue = false ∧ base.limitDue 0 = false ∧ ((settle base).drop 0).decay ≠ some .expired ∧
    ((settle base).drop 0).latchTimer ≠ some .expired ∧ (ready base).lossTimer ≠ some .expired ∧
    (settle base).holdoff ≠ some .expired ∧ ((ready base).drop 0).tx = none ∧ (ready base).trunkTx = none ∧
    (base.drop 0).downQueue = [] ∧
    { base with trunkTx := some { octets := [], source := .notice } }.trunkTx ≠ none := by decide +kernel

theorem witness_TakingsNotDue : (Instr.getInfo, CommandRow.getInfo) ∈ takingRows ∧
    (∀ c rest, (settleLinks (asked [0x7F, 0x01])).commandQueue = c :: rest → rowOf c.payload ≠ .getInfo) := by
  refine ⟨by decide, fun c rest h => ?_⟩
  have e : (settleLinks (asked [0x7F, 0x01])).commandQueue = [command [0x7F, 0x01]] := by decide +kernel
  rw [e] at h
  cases h
  decide

theorem witness_OriginatedFrames : (List.replicate 240 (0 : Byte)).length ≤ 240 :=
  Nat.le_of_eq List.length_replicate

set_option maxRecDepth 100000 in
theorem witness_FrameTests : (line [1, 2, 3, 4, 5]).octets.length = 5 ∧ long.length = 300 ∧
    checkMatches long = true ∧ checkMatches (List.replicate 300 7) = false ∧
    (receive (line long)).count = 300 ∧ (receive (line long)).checkOk = true ∧
    (let f := fromTrunk 0x0001 0x0002 0x02 []
     Arrives f (ready base) ∧ 8 ≤ f.octets.length ∧ checkMatches f.octets = true ∧ frameKind f.octets = 0x02 ∧
      (frameLen f.octets).toNat = 0) ∧
    (let r := receive (data 0)
     8 ≤ r.count ∧ r.checkOk = true ∧ lengthFails r = false) := by decide +kernel

set_option maxRecDepth 100000 in
/-- 17 and 240 payload octets of a HEARTBEAT are the two ends of the third LENGTH case. -/
theorem witness_FrameTests_heartbeat_ends : ∀ n ∈ [17, 240],
    let r := receive (line (buildFrame 0x0001 0x0002 0x02 (List.replicate n 0)))
    r.checkOk = true ∧ (frameLen r.stored).toNat = n ∧
      faultyReason (.drop 0) base.active.inRange r = some .length := by decide +kernel

theorem witness_ResetLines : ∃ s₁ s₂ s₃ : State,
    s₁.phase = .running ∧ s₂.phase = .startUp .line ∧ s₃.phase = .held .powerOn :=
  ⟨base, { base with phase := .startUp .line }, { base with phase := .held .powerOn }, rfl, rfl, rfl⟩

/-- The part at the completion of the response to RESET. -/
def resetting : State :=
  { base with engine := .resetPending, trunkTx := some { octets := [1], source := .response true } }

theorem witness_CommandReset :
    resetting.phase = .running ∧ (ready resetting).trunkTx = some { octets := [1], source := .response true } ∧
    takes .reset [0x7F, 0x01] (asked [0x7F, 0x01]) = true ∧ (data 0).octets ≠ [] ∧
    (data 0).begun = (data 0).ended ∧ (data 0).ended = (ready resetting).resets := by decide +kernel

theorem witness_DefaultPolicyRecord : base.policyOf 1 = Policy.default ∧ (base.drop 1).admission = .probation ∧
    base.heartbeatGood 1 = true ∧ (base.modDrop 1 fun d => { d with runCount := 2 }).heartbeatGood 1 = true := by
  decide +kernel

theorem witness_FlagsAreRaised : (base.drop 0).flag .latch = false ∧
    ((raiseDrop 0 .latch base).drop 0).flag .latch = true ∧ base.deviceFlag .mapApplied = false ∧
    (raiseDevice .mapApplied base).deviceFlag .mapApplied = true ∧ base.notifies 3 = true := by decide +kernel

/-! ### Witnesses: the paths -/

/-- What an arrival at drop 0 finds classified. -/
def reasonAt0 (s : State) (f : LineFrame) : Option FaultyReason :=
  (classify (.drop 0) (ready s).active.inRange (receive f)).reason

theorem witness_FaultyDropArrival_own : (data 0).octets ≠ [] ∧ ((ready base).drop 0).admission ≠ .vacant ∧
    reasonAt0 base (line [1, 2, 3]) = some .runt ∧ Arrives (line [1, 2, 3]) (ready base) := by decide +kernel

theorem witness_FaultyDropArrival_injected : ∀ left ∈ [0, 15],
    let s := at0 (fun d => { d with injection := left + 1 }) base
    reasonAt0 s (data 0) = none ∧ ((ready s).drop 0).injection = left + 1 ∧
      Arrives (data 0) (ready s) ∧ ((ready s).drop 0).admission ≠ .vacant := by decide +kernel

theorem witness_HeartbeatArrival : Arrives (beat 0x80) (ready base) ∧ reasonAt0 base (beat 0x80) = none ∧
    ((ready base).drop 0).injection = 0 ∧ frameKind (beat 0x80).octets = 0x02 ∧
    ((ready base).drop 0).admission = .admitted ∧
    ((ready (at0 (fun d => { d with admission := .probation }) base)).drop 0).admission = .probation := by
  decide +kernel

/-- The four outcomes of a DATA frame of eight octets: credit 7 and 8, a closed gate, four and three waiting. -/
theorem witness_DataArrival : reasonAt0 base (data 0) = none ∧ Arrives (data 0) (ready base) ∧ frameKind (data 0).octets = 0x01 ∧
    (data 0).octets.length = 8 ∧ ((ready base).policyOf 0).rate.enable = true ∧
    (∀ n ∈ [7, 8], ((ready (at0 (fun d => { d with credit := n }) base)).drop 0).credit = n) ∧
    (appendMark 0 .good (ready (at0 (fun d => { d with upHold := true }) base))).upGate 0 = false ∧
    (∀ n ∈ [3, 4],
      let s := at0 (fun d => { d with upQueue := List.replicate n held })
        { base with trunkTx := some { octets := [], source := .notice } }
      ((ready s).drop 0).upQueue.length = n) := by decide +kernel

theorem witness_DiscardedArrivals : ((ready base).drop 2).admission = .vacant ∧
    ¬ Arrives (data 0) (ready { base with resets := 1 }) ∧ Arrives (line [1]) (ready base) ∧
    Arrives (data 0) (ready { base with resets := 1, lastCause := .command }) ∧
    (let reason := fun f => (classify .trunk (ready base).active.inRange (receive f)).reason
     reason (line [1]) = some .runt ∧ reason (fromTrunk 0xFFE0 0x0000 0x10 []) = none ∧
      reason (fromTrunk 0xFFE0 0x0001 0x01 []) = none) ∧
    (ready base).active.route 0xFFE0 = .own ∧ (ready base).active.route 0x0015 = .none ∧
    (ready base).active.route 0x0014 = .drop 1 ∧ (ready base).active.route 0xFFFF = .broadcast := by
  decide +kernel

theorem witness_RoutingAnswer : PlaneLaw plan := by
  have small : ∀ k : DropNo, plan.base k + plan.size k ≤ 0x15 ∧ 1 ≤ plan.base k := by decide +kernel
  have apart : ∀ j k : DropNo, j ≠ k → plan.base j + plan.size j ≤ plan.base k ∨
      plan.base k + plan.size k ≤ plan.base j := by decide +kernel
  refine ⟨fun j k a hj hk => ?_, fun k a h => ?_, by decide +kernel, by decide, by decide⟩
  · simp only [DropMap.inRange, Bool.and_eq_true, decide_eq_true_eq] at hj hk
    refine Decidable.byContradiction fun hne => ?_
    rcases apart j k hne with h | h <;> omega
  · have := small k
    simp only [DropMap.inRange, Bool.and_eq_true, decide_eq_true_eq] at h
    omega

theorem witness_TrunkArrivalOffered : Arrives (fromTrunk 0x0001 0xFFF0 0x01 []) (ready base) ∧
    (classify .trunk (ready base).active.inRange (receive (fromTrunk 0x0001 0xFFF0 0x01 []))).reason = none ∧
    (ready base).active.route (frameDest (fromTrunk 0x0001 0xFFF0 0x01 []).octets) = .drop 0 ∧
    (ready base).downGate 0 = true ∧ (ready (at0 (fun d => { d with downHold := true }) base)).downGate 0 = false ∧
    (∀ n ∈ [3, 4],
      let s := at0 (fun d => { d with downQueue := List.replicate n held, tx := some held }) base
      ((ready s).drop 0).downQueue.length = n) := by decide +kernel

theorem witness_ValidCommandArrival : (∀ s ∈ [base, lost .report, lost .policy, lost .isolate],
      Arrives (fromTrunk 0xFFE0 0xFFF0 0x10 [1, 2]) (ready s)) ∧
    (classify .trunk (ready base).active.inRange (receive (fromTrunk 0xFFE0 0xFFF0 0x10 [1, 2]))).reason = none ∧
    (ready base).fallback = none ∧ (ready (lost .report)).fallback = some .report ∧
    (ready (lost .policy)).fallback = some .policy ∧ (ready (lost .isolate)).fallback = some .isolate ∧
    (ready (lost .policy)).active.entries[(0 : DropNo)].policy = (ready (lost .policy)).settings.fallbackPolicy := by
  decide +kernel

theorem witness_TransmittersWork_drop : (base.drop 0).tx = none ∧
    ((at0 (fun d => { d with downQueue := [held] }) base).drop 0).downQueue = held :: [] ∧
    ((ready (at0 (fun d => { d with tx := some held }) base)).drop 0).tx = some held := by decide +kernel

/-! ### Witnesses: the arbiter -/

theorem witness_GrantDecision_response : base.trunkTx = none ∧
    { base with responseQueue := [{ octets := [1], isReset := false }] }.responseQueue =
      { octets := [1], isReset := false } :: [] := by decide

theorem witness_GrantDecision_notice :
    let s := raiseDevice .mapApplied base
    s.phase = .running ∧ s.trunkTx = none ∧ s.responseQueue = [] ∧ s.noticePending = true ∧ s.holdoff = none ∧
      s.listsSomething = true := by decide +kernel

/-- Turn 0 is drop 0 after a reset, and turn 15 the pointed drop. -/
theorem witness_GrantDecision_upstream :
    let at' := fun (k : DropNo) => base.modDrop k fun d => { d with upQueue := [held] }
    (∀ k, (base.drop k).upQueue = []) ∧ base.noticePending = false ∧ base.listsSomething = false ∧
    { base with holdoff := some (.left 1) }.holdoff ≠ none ∧
    ((at' 0).drop ((at' 0).pointer + 1 + Fin.ofNat 16 0)).upQueue = held :: [] ∧
    ((at' 15).drop ((at' 15).pointer + 1 + Fin.ofNat 16 15)).upQueue = held :: [] ∧
    (∀ i : Fin 15, ((at' 15).drop ((at' 15).pointer + 1 + Fin.ofNat 16 i.val)).upQueue = []) := by decide +kernel

theorem witness_TransmittersWork_trunk :
    (∀ src ∈ [TrunkSource.upstream 0, .response false, .notice],
      (ready { base with trunkTx := some { octets := [1], source := src } }).trunkTx =
        some { octets := [1], source := src }) ∧
    (settle { base with holdoff := some .expired }).holdoff = some .expired := by decide +kernel

/-! ### Witnesses: ticks and expiries -/

theorem witness_PresenceChangeAccepted :
    let s := fun (a : Admission) (lv : Level) =>
      at0 (fun d => { d with admission := a, candidate := some { target := lv, remaining := .expired } }) base
    ((settle (s .admitted .present)).drop 0).candidate = some { target := .present, remaining := .expired } ∧
    ((settle (s .admitted .present)).drop 0).admission ≠ .latched ∧
    (∀ lv ∈ [Level.present, .absent], ((settle (s .latched lv)).drop 0).admission = .latched ∧
      ((settle (s .latched lv)).drop 0).candidate = some { target := lv, remaining := .expired }) := by decide +kernel

theorem witness_TickConditions_rate : (settle (at0 (fun d =>
    d.setMon .rate { state := .tripped, condition := true, timer := none }) base)).rateFullDue 0 = true := by
  decide +kernel

/-- The four clauses of the silence limit: no monitor, a delay, no delay, in RECOVERING. -/
theorem witness_TickConditions_silence :
    let quiet := fun s => at0 (fun d => { d with silence := 1000 }) s
    let again := at0 (fun d => d.setMon .sil { state := .recovering, condition := false, timer := some (.left 7) }) base
    (settle (quiet base)).silenceDue 0 = true ∧ 0 < ((settle (quiet base)).policyOf 0).sil.tripDelay ∧
    (settle (quiet quick)).silenceDue 0 = true ∧ ((settle (quiet quick)).policyOf 0).sil.tripDelay = 0 ∧
    (settle (quiet again)).silenceDue 0 = true ∧ (((settle (quiet again)).drop 0).mon .sil).state = .recovering ∧
    (settle (base.modDrop 1 fun d => { d with silence := 1000 })).silenceDue 1 = true ∧
    ((settle base).policyOf 1).sil.enable = false := by decide +kernel

theorem witness_MonitorTimersExpire :
    let s := fun st c => at0 (fun d => d.setMon .err { state := st, condition := c, timer := some .expired }) base
    (((settle (s .alert true)).drop 0).mon .err).state = .alert ∧
    (((settle (s .alert true)).drop 0).mon .err).timer = some .expired ∧
    (((settle (s .recovering false)).drop 0).mon .err).state = .recovering ∧
    (((settle (s .recovering false)).drop 0).mon .err).timer = some .expired := by decide +kernel

/-- One advance below the latch limit 2, and one that reaches it. -/
theorem witness_TripEffects : ((base.policyOf 0).mon .err).latch = true ∧ (base.policyOf 0).latchLimit = 2 ∧
    ¬ (base.policyOf 0).latchLimit ≤ min 15 ((base.drop 0).repeatCount + 1) ∧
    (base.policyOf 0).latchLimit ≤
      min 15 (((at0 (fun d => { d with repeatCount := 1 }) base).drop 0).repeatCount + 1) := by decide +kernel

theorem witness_SecondBoundary : (settle { base with boundaryDue := true }).boundaryDue = true := by decide +kernel

theorem witness_ProbationLimit :
    let s := { base with policies := base.policies.set 0 { Policy.default with probationLimit := 1 } }.modDrop 1
      fun d => { d with elapsed := 1 }
    (s.drop 1).admission = .probation ∧ 0 < (s.policyOf 1).probationLimit ∧
      (s.policyOf 1).probationLimit ≤ (s.drop 1).elapsed := by decide +kernel

theorem witness_DecayTimer :
    let s := fun (a : Admission) (n : Nat) =>
      at0 (fun d => { d with admission := a, repeatCount := n, decay := some .expired }) base
    (∀ n ∈ [1, 2, 15], ((settle (s .admitted n)).drop 0).decay = some .expired ∧
      ((settle (s .admitted n)).drop 0).repeatCount = n ∧ ((settle (s .admitted n)).drop 0).anyClosing = false) ∧
    ((settle (s .latched 1)).drop 0).admission = .latched ∧ ((settle (s .latched 1)).drop 0).decay = some .expired ∧
    (let t := at0 (fun d => d.setMon .sil { state := .tripped, condition := true, timer := none }) (s .admitted 2)
     ((settle t).drop 0).decay = some .expired ∧ (((settle t).drop 0).mon .sil).state = .tripped) := by decide +kernel

theorem witness_LatchHold :
    let s := at0 (fun d => { d with admission := .latched, latchTimer := some .expired }) base
    ((settle s).drop 0).latchTimer = some .expired ∧ ((settle s).drop 0).admission = .latched := by decide +kernel

theorem witness_ManagementLoss : ∀ o ∈ [FallbackOption.report, .isolate, .policy],
    let s := { lost o with fallback := none, lossTimer := some .expired }
    (ready s).lossTimer = some .expired ∧ (ready s).fallback = none ∧ (ready s).settings.fallbackOption = o ∧
      (ready s).active.entries[(0 : DropNo)].policy = (ready s).settings.fallbackPolicy := by decide +kernel

/-! ### Witnesses: policy changes -/

/-- Drop 0 of `s` with its ERR monitor as told. -/
def withErr (st : MonitorState) (c : Bool) (t : Timer) (s : State) : State :=
  at0 (fun d => d.setMon .err { state := st, condition := c, timer := t }) s

/-- The base with drop 0 under the default policy. -/
def plain : State := { base with policies := base.policies.set 1 .default }

/-- Disabled from TRIPPED; enabled with a false and a true condition, with and without a delay. -/
theorem witness_PolicyChangeMovesMonitors_enables : (base.drop 0).admission ≠ .vacant ∧
    (watched.mon .err).enable = true ∧ (plain.policyOf 0).err.enable = false ∧
    (((withErr .tripped true none plain).drop 0).mon .err).state = .tripped ∧
    (((policyChange 0 .default base).drop 0).mon .err).condition = false ∧
    (((policyChange 0 .default (withErr .clear true none base)).drop 0).mon .err).condition = true ∧
    0 < (base.policyOf 0).err.tripDelay ∧ (quick.policyOf 0).err.tripDelay = 0 ∧
    (((policyChange 0 .default (withErr .clear true none quick)).drop 0).mon .err).condition = true := by
  decide +kernel

/-- Enabled in both: every state of the monitor, with the new delay or recovery time above 0 and 0. -/
theorem witness_PolicyChangeMovesMonitors_stays : ∀ s ∈ [base, quick],
    (s.policyOf 0).err.enable = true ∧
    (let s' := withErr .alert true (some (.left 3)) s
     (((policyChange 0 watched s').drop 0).mon .err).condition = ((s'.drop 0).mon .err).condition) ∧
    (let s' := withErr .recovering false (some (.left 3)) s
     (((policyChange 0 watched s').drop 0).mon .err).condition = ((s'.drop 0).mon .err).condition) ∧
    (let s' := withErr .tripped true none s
     (((policyChange 0 watched s').drop 0).mon .err).condition = ((s'.drop 0).mon .err).condition) := by
  decide +kernel

/-- Enabled in both, with a condition that step 2 changes: true by a lower K, from CLEAR; false by a new window, from
TRIPPED and from ALERT. -/
theorem witness_PolicyChangeMovesMonitors_changes : ∀ s ∈ [base, quick],
    let after := fun old s' => ((((policyChange 0 old s').drop 0).mon .err).condition,
      (afterChange (s'.policyOf 0).err true ((s'.drop 0).mon .err)
        (((policyChange 0 old s').drop 0).mon .err).condition).state)
    let faulty := at0 (fun d => { d with errWindow := [.faulty, .faulty] }) s
    after { watched with tripCount := 8 } faulty =
      (true, if (s.policyOf 0).err.tripDelay = 0 then MonitorState.tripped else .alert) ∧
    after { watched with window := 4 } (withErr .tripped true none s) =
      (false, if (s.policyOf 0).err.recovery = 0 then MonitorState.clear else .recovering) ∧
    after { watched with window := 4 } (withErr .alert true (some (.left 3)) s) = (false, .clear) := by
  decide +kernel

theorem witness_PolicyChangeActsOnAdmission : (base.drop 2).admission = .vacant ∧
    (base.drop 1).admission = .probation ∧ (base.drop 0).admission = .admitted ∧
    (∀ a ∈ [Admission.latched, .barred],
      ((at0 (fun d => { d with admission := a }) base).drop 0).admission = a) ∧
    (let old := { watched with decayInterval := 9 }
     old.decayInterval ≠ (base.policyOf 0).decayInterval) ∧
    ((at0 (fun d => { d with decay := some (.left 9) }) base).drop 0).decay ≠ none := by decide +kernel

/-- Every monitor that `old` disables is CLEAR at drop `k`. -/
def disabledClear (old : Policy) (k : DropNo) (s : State) : Bool :=
  allMonitors.all fun m => (old.mon m).enable || ((s.drop k).mon m).state == .clear

theorem clear_of_disabledClear {old : Policy} {k : DropNo} {s : State} (h : disabledClear old k s = true) :
    ∀ m, (old.mon m).enable = false → ((s.drop k).mon m).state = .clear := by
  simp only [disabledClear, allMonitors, List.all_cons, List.all_nil, Bool.and_true, Bool.and_eq_true,
    Bool.or_eq_true, beq_iff_eq] at h
  intro m hm
  cases m <;> simp_all

/-- Under an old record whose disabled monitors are all CLEAR: a change that trips ERR from ALERT and latches, one that
trips nothing, one that admits and one that bars in PROBATION without a trip. -/
theorem witness_PolicyChangeActsOnAdmission_trips :
    let trips := fun (old : Policy) (k : DropNo) (s : State) => ((policyChange k old s).drop k).count .trips
    let after := fun (old : Policy) (k : DropNo) (s : State) => ((policyChange k old s).drop k).admission
    let alert := withErr .alert true (some (.left 3)) quick
    let tried := fun p => { base with policies := base.policies.set 0 p }.modDrop 1 fun d =>
      { d with runCount := 2, elapsed := 5 }
    let sooner := tried { Policy.default with goodRun := 2 }
    let barring := tried { Policy.default with probationLimit := 5 }
    (disabledClear watched 0 alert = true ∧ trips watched 0 alert = 1 ∧ after watched 0 alert = .latched) ∧
    (disabledClear watched 0 quick = true ∧ trips watched 0 quick = (quick.drop 0).count .trips ∧
      (quick.drop 0).admission ≠ .latched ∧ watched.decayInterval = (quick.policyOf 0).decayInterval) ∧
    (disabledClear .default 1 sooner = true ∧ trips .default 1 sooner = 0 ∧ after .default 1 sooner = .admitted) ∧
    (disabledClear .default 1 barring = true ∧ trips .default 1 barring = 0 ∧ after .default 1 barring = .barred) := by
  decide +kernel

/-- One move into each admission state: the row, the state, the drop and the admission state reached. -/
def moves : List (Instr × State × DropNo × Admission) :=
  [(.applyMap, { asked [0x13, 9] with staging := DropMap.atReset 0 }, 0, .vacant),
   (.recoverLatch, at0 (fun d => { d with admission := .latched }) (asked [0x32, 9, 0, 0, 0]), 0, .probation),
   (.dropArrival 1 (line (buildFrame 0xFFF0 0x0011 0x02 [0])), base.modDrop 1 fun d => { d with runCount := 2 }, 1,
     .admitted),
   (.probationLimitReached 1, { base with policies := base.policies.set 0 { Policy.default with probationLimit := 1 }
     }.modDrop 1 fun d => { d with elapsed := 1 }, 1, .barred),
   (.silenceLimitReached 0, at0 (fun d => { d with silence := 1000 }) quick, 0, .latched)]

theorem witness_AdmissionTransitions : ∀ m ∈ moves,
    isResetRow m.1 = false ∧ m.2.1.phase = .running ∧
      ((foundBy m.1 m.2.1).drop m.2.2.1).admission ≠ m.2.2.2 ∧
      leadsTo m.1 m.2.1 (fun t => (t.drop m.2.2.1).admission = m.2.2.2) = true := by decide +kernel

/-! ### Witnesses: takings -/

/-- Each payload is takeable as the row it names. -/
theorem witness_taking_rows : ∀ p ∈ ([
      ([0x01, 9], .getInfo), ([0x02, 9], .readSettings), ([0x03, 9] ++ encodeSettings Settings.default, .writeSettings),
      ([0x10, 9, 1, 0x10], .readMap), ([0x10, 9, 0, 0x0F], .readMap),
      ([0x11, 9, 0, 1, 0xFF, 0xE0, 0, 0], .writeMapHeader), ([0x12, 9, 15, 12, 7], .writeMapEntry),
      ([0x12, 9, 0, 0, 0], .writeMapEntry), ([0x12, 9, 16, 0, 0], .writeMapEntry),
      ([0x13, 9], .applyMap), ([0x20, 9, 7], .readPolicy), ([0x21, 9, 7] ++ encodePolicy Policy.default, .writePolicy),
      ([0x22, 9, 15], .readClass), ([0x23, 9, 15, 1, 5, 5, 3], .writeClass), ([0x30, 9, 15], .readDrop),
      ([0x31, 9, 0, 1, 2], .hold), ([0x32, 9, 0, 0, 0], .recoverLatch), ([0x32, 9, 0, 1, 0], .recoverBarred),
      ([0x32, 9, 0, 2, 3], .recoverMonitor), ([0x33, 9, 0, 0, 16], .injectErr), ([0x33, 9, 0, 0, 1], .injectErr),
      ([0x33, 9, 0, 0, 0], .injectErr), ([0x33, 9, 0, 0, 17], .injectErr), ([0x33, 9, 0, 1, 0x80], .injectHeartbeat),
      ([0x40, 9, 15], .readEvents), ([0x40, 9, 16], .readEvents), ([0x41, 9], .ackAllEvents),
      ([0x50, 9, 16, 0], .readCounters), ([0x50, 9, 15, 1], .readCounters), ([0x51, 9], .clearCounters),
      ([0x7F, 9], .reset), ([0x7E, 9], .unknown), ([0x01], .unknown), ([0x01, 9, 9], .getInfo)] :
        List (List Byte × CommandRow)),
    takes p.2 p.1 (asked p.1) = true := by decide +kernel

/-- A WRITE_SETTINGS of the default record, its octets from place `i` replaced. -/
def settingsWith (i : Nat) (l : List Byte) : List Byte :=
  let r := encodeSettings Settings.default
  [0x03, 9] ++ r.take i ++ l ++ r.drop (i + l.length)

/-- The default policy record, its octets from place `i` replaced. -/
def policyWith (i : Nat) (l : List Byte) : List Byte :=
  let r := encodePolicy Policy.default
  r.take i ++ l ++ r.drop (i + l.length)

/-- A field just outside its range, for each clause of check 4, and the status code of its answer. -/
theorem witness_CommandChecksRefuse_fields : ∀ p ∈ ([
      (.readMap, .readMap, [0x10, 9, 2, 17], 4), (.readMap, .readMap, [0x10, 9, 1, 17], 3),
      (.writeMapHeader, .writeMapHeader, [0x11, 9, 0, 0, 0, 0, 0, 0], 4),
      (.writeMapHeader, .writeMapHeader, [0x11, 9, 0xFF, 0xFF, 0, 0, 0, 0], 4),
      (.writeMapEntry, .writeMapEntry, [0x12, 9, 15, 1, 0], 4), (.writeMapEntry, .writeMapEntry, [0x12, 9, 0, 13, 0], 4),
      (.writeMapEntry, .writeMapEntry, [0x12, 9, 0, 12, 8], 4), (.writeMapEntry, .writeMapEntry, [0x12, 9, 16, 1, 8], 3),
      (.writeSettings, .writeSettings, settingsWith 0 [0x0E, 0x11], 4), (.writeSettings, .writeSettings, settingsWith 2 [3], 4),
      (.writeSettings, .writeSettings, settingsWith 3 [8], 4), (.writeSettings, .writeSettings, settingsWith 4 [0], 4),
      (.writeSettings, .writeSettings, settingsWith 5 [2], 4), (.writeSettings, .writeSettings, settingsWith 8 [2], 4),
      (.writeSettings, .writeSettings, settingsWith 9 [0x27, 0x11], 4),
      (.readPolicy, .readPolicy, [0x20, 9, 8], 3), (.writePolicy, .writePolicy, [0x21, 9, 8] ++ policyWith 1 [3], 3),
      (.writePolicy, .writePolicy, [0x21, 9, 7] ++ policyWith 1 [3], 4),
      (.readClass, .readClass, [0x22, 9, 16], 3), (.writeClass, .writeClass, [0x23, 9, 16, 2, 0, 0, 0], 3),
      (.writeClass, .writeClass, [0x23, 9, 15, 2, 0, 0, 1], 4), (.writeClass, .writeClass, [0x23, 9, 15, 1, 1, 0, 1], 4),
      (.writeClass, .writeClass, [0x23, 9, 15, 1, 0, 0, 0], 4), (.writeClass, .writeClass, [0x23, 9, 15, 1, 0, 0, 4], 4),
      (.hold, .hold, [0x31, 9, 15, 3, 0], 4), (.hold, .hold, [0x31, 9, 15, 0, 3], 4),
      (.recoverLatch, .recoverLatch, [0x32, 9, 15, 3, 0], 4), (.recoverMonitor, .recoverMonitor, [0x32, 9, 15, 2, 4], 3),
      (.injectErr, .injectErr, [0x33, 9, 15, 2, 1], 4), (.injectErr, .injectErr, [0x33, 9, 15, 0, 0], 4),
      (.injectErr, .injectErr, [0x33, 9, 15, 0, 17], 4),
      (.readEvents, .readEvents, [0x40, 9, 17], 3), (.readCounters, .readCounters, [0x50, 9, 17, 2], 3),
      (.readCounters, .readCounters, [0x50, 9, 16, 2], 4)] : List (Instr × CommandRow × List Byte × Byte)),
    (p.1, p.2.1) ∈ takingRows ∧ takes p.2.1 p.2.2.1 (asked p.2.2.1) = true ∧
      p.2.2.1.length = 2 + paramCount p.2.1 ∧
      leadsTo p.1 (asked p.2.2.1) (fun t => answered t = p.2.2.1.take 2 ++ [p.2.2.2]) = true := by decide +kernel

theorem witness_BadSettings : ∀ p ∈ [settingsWith 0 [0x0E, 0x11], settingsWith 2 [3], settingsWith 3 [8],
    settingsWith 4 [0], settingsWith 5 [2], settingsWith 8 [2], settingsWith 9 [0x27, 0x11]],
    BadSettings (p.drop 2) := by unfold BadSettings; decide +kernel

/-- Each field of a policy record just outside its range, the records that section 4.1 refuses. -/
theorem witness_BadPolicy : ∀ l ∈ [policyWith 0 [2], policyWith 4 [0xEA, 0x61], policyWith 6 [0xEA, 0x61],
    policyWith 8 [4], policyWith 9 [2], policyWith 10 [2], policyWith 1 [3], policyWith 1 [17], policyWith 2 [0],
    policyWith 2 [9], policyWith 3 [2], policyWith 12 [0, 247], policyWith 12 [0x40, 1], policyWith 14 [0, 0],
    policyWith 14 [4, 1], policyWith 24 [0, 9], policyWith 24 [0xEA, 0x61], policyWith 34 [2], policyWith 34 [11],
    policyWith 35 [5], policyWith 35 [11], policyWith 43 [16], policyWith 44 [0, 0], policyWith 44 [0x0E, 0x11],
    policyWith 46 [0x0E, 0x11], policyWith 48 [2], policyWith 49 [0], policyWith 50 [0x0E, 0x11]],
    BadPolicy l ∧ decodePolicy l = none := by unfold BadPolicy BadGroup; decide +kernel

/-- A monitor of drop 0 TRIPPED with a false condition, when the command is taken. -/
def tripped (payload : List Byte) : State :=
  at0 (fun d => d.setMon .stat { state := .tripped, condition := false, timer := none }) (asked payload)

/-- What a taking finds of the drop that the command names: the states the statements about one drop ask for. -/
theorem witness_HoldIsTaken : takes .hold [0x31, 9, 0, 1, 2] (asked [0x31, 9, 0, 1, 2]) = true ∧
    ((settleLinks (asked [0x31, 9, 0, 1, 2])).drop 0).admission ≠ .vacant ∧
    takes .hold [0x31, 9, 2, 0, 2] (asked [0x31, 9, 2, 0, 2]) = true ∧
    ((settleLinks (asked [0x31, 9, 2, 0, 2])).drop 2).admission = .vacant := by decide +kernel

theorem witness_RecoverIsTaken :
    (∀ a ∈ [Admission.latched, .barred, .admitted],
      let s := fun p => at0 (fun d => { d with admission := a }) (asked p)
      takes .recoverLatch [0x32, 9, 0, 0, 0] (s [0x32, 9, 0, 0, 0]) = true ∧
      takes .recoverBarred [0x32, 9, 0, 1, 0] (s [0x32, 9, 0, 1, 0]) = true ∧
      ((settleLinks (s [0x32, 9, 0, 0, 0])).drop 0).admission = a) ∧
    (let s := tripped [0x32, 9, 0, 2, 3]
     takes .recoverMonitor [0x32, 9, 0, 2, 3] s = true ∧ (((settleLinks s).drop 0).mon .stat).state = .tripped ∧
      (((settleLinks s).drop 0).mon .stat).condition = false ∧ 0 < ((settleLinks s).policyOf 0).stat.recovery) ∧
    (let s := { tripped [0x32, 9, 0, 2, 3] with policies := quick.policies }
     takes .recoverMonitor [0x32, 9, 0, 2, 3] s = true ∧ (((settleLinks s).drop 0).mon .stat).state = .tripped ∧
      (((settleLinks s).drop 0).mon .stat).condition = false ∧ ((settleLinks s).policyOf 0).stat.recovery = 0) := by
  decide +kernel

/-- Every count at the ends of its range, on a drop that is not VACANT; and the VACANT drop 2. -/
theorem witness_Injects :
    (∀ n ∈ [0, 1, 16, 17], takes .injectErr [0x33, 9, 0, 0, n] (asked [0x33, 9, 0, 0, n]) = true) ∧
    takes .injectErr [0x33, 9, 2, 0, 1] (asked [0x33, 9, 2, 0, 1]) = true ∧
    takes .injectHeartbeat [0x33, 9, 0, 1, 0x80] (asked [0x33, 9, 0, 1, 0x80]) = true ∧
    takes .injectHeartbeat [0x33, 9, 2, 1, 0x80] (asked [0x33, 9, 2, 1, 0x80]) = true ∧
    ((settleLinks (asked [0x33, 9, 2, 1, 0x80])).drop 2).admission = .vacant ∧
    ((settleLinks (asked [0x33, 9, 0, 1, 0x80])).drop 0).admission ≠ .vacant := by decide +kernel

/-- The base with an APPLY_MAP waiting and this staging map. -/
def applying (m : DropMap) : State := { asked [0x13, 9] with staging := m }

theorem witness_RefusedCommands : takes .getInfo [0x01, 9, 9] (asked [0x01, 9, 9]) = true ∧
    (carryOut [0x01, 9, 9] (counted (asked [0x01, 9, 9]) [])).status ≠ .ok ∧
    (let s := applying { plan with header := { plan.header with own := 0 } }
     takes .applyMap [0x13, 9] s = true ∧ (carryOut [0x13, 9] (counted s [])).status = .badMap) := by decide +kernel

/-- The plan with another header. -/
def headed (base own controller : Addr) : DropMap :=
  { plan with header := { planeBase := base, own := own, controller := controller } }

/-- The four reasons of a bad map, with the end of the plane at FFFEh and FFFFh. -/
theorem witness_BadMapIsRefused :
    (∀ m ∈ [headed 0xFFEB 1 0, headed 0xFFEC 0xFFE0 0, headed 1 0 0, headed 1 0xFFFF 0, headed 1 1 0,
        headed 1 0x14 0, headed 1 0x15 0x15, headed 1 0x15 0xFFFF, headed 1 0x15 0x14],
      takes .applyMap [0x13, 9] (applying m) = true ∧ (settleLinks (applying m)).staging = m) ∧
    (headed 0xFFEB 1 0).header.planeBase.toNat + (headed 0xFFEB 1 0).total - 1 = 0xFFFE ∧
    0xFFFE < (headed 0xFFEC 0xFFE0 0).header.planeBase.toNat + (headed 0xFFEC 0xFFE0 0).total - 1 ∧
    (headed 1 0x14 0).inRange 1 0x14 = true ∧ (∀ k, (headed 1 0x15 0x15).inRange k 0x15 = false) := by
  decide +kernel

/-- A new map that vacates drop 0, re-ranges drop 1, brings drop 2 into use and leaves drop 3 unused; the plan
again, which leaves every drop as it is; and a map without a controller. -/
theorem witness_MapIsApplied :
    let e := (plan.entries.set 0 { sizeCode := 0, policy := 1 }).set 2 { sizeCode := 3, policy := 0 }
    let other : DropMap := { plan with entries := e }
    (∀ m ∈ [other, plan, DropMap.atReset 0],
      takes .applyMap [0x13, 9] (applying m) = true ∧ mapReason (settleLinks (applying m)).staging = none) ∧
    other.size 0 = 0 ∧ plan.size 0 ≠ 0 ∧ other.size 1 ≠ 0 ∧ plan.base 1 ≠ other.base 1 ∧ other.size 2 ≠ 0 ∧
    plan.size 2 = 0 ∧ other.size 3 = 0 ∧ plan.size 3 = 0 ∧ (DropMap.atReset 0).header.controller = 0 := by
  decide +kernel

/-- Another index with the same range, for drop 0 in use and for drop 3 unused, outside FALLBACK and under POLICY; and a
controller address that the apply brings, or changes. -/
theorem witness_MapIsApplied_index :
    let m : DropMap := { headed 1 0xFFE0 0xFFF1 with
      entries := (plan.entries.set 0 { sizeCode := 4, policy := 2 }).set 3 { sizeCode := 0, policy := 2 } }
    (∀ s ∈ [applying m, { lost .policy with commandQueue := [command [0x13, 9]], staging := m },
        { applying m with active := headed 1 0xFFE0 0 }],
      takes .applyMap [0x13, 9] s = true ∧ mapReason (settleLinks s).staging = none ∧
      m.size 0 = (settleLinks s).active.size 0 ∧ m.base 0 = (settleLinks s).active.base 0 ∧
      (settleLinks s).active.entries[(0 : DropNo)].policy ≠ 2 ∧ (settleLinks s).active.size 3 = 0 ∧
      (settleLinks s).active.entries[(3 : DropNo)].policy ≠ 2 ∧ ((settleLinks s).drop 3).admission = .vacant) ∧
    (settleLinks (applying m)).active.header.controller ≠ 0 ∧ m.header.controller ≠ 0 ∧
    (counted (applying m) []).deviceFlag .mapApplied = false := by decide +kernel

/-- A WRITE_SETTINGS of this record. -/
def settingsPayload (c : Settings) : List Byte := [0x03, 9] ++ encodeSettings c

/-- New settings for each clause: the same record, another debounce, another timeout, suspend; and timeout 0 in
FALLBACK. -/
theorem witness_SettingsAreWritten :
    (∀ c ∈ [Settings.default, { Settings.default with debounce := 255 }, { Settings.default with timeout := 3600 },
        { Settings.default with suspend := true }],
      c.inRange = true ∧ takes .writeSettings (settingsPayload c) (asked (settingsPayload c)) = true ∧
        (settleLinks (asked (settingsPayload c))).fallback = none) ∧
    (let s := { lost .isolate with commandQueue := [command (settingsPayload Settings.default)] }
     takes .writeSettings (settingsPayload Settings.default) s = true ∧ (settleLinks s).settings.timeout ≠ 0 ∧
      (settleLinks s).fallback ≠ none) := by decide +kernel

/-- Under POLICY: another fallback policy, and the end of FALLBACK for a drop of that index and for another. Mask and
suspend: suspended, no longer suspended, and the kind of a set flag unmasked. -/
theorem witness_SettingsAreWritten_rows :
    let waiting := fun (s : State) c => { s with commandQueue := [command (settingsPayload c)] }
    let keeps : Settings := { (lost .policy).settings with fallbackPolicy := 2 }
    let ends : Settings := { (lost .policy).settings with timeout := 0 }
    let masked : State := raiseDevice .mapApplied
      (raiseDrop 0 .latch { base with settings := { base.settings with noticeMask := 0xFFFF } })
    let hushed : State := { masked with settings := { Settings.default with suspend := true } }
    (∀ c ∈ [keeps, ends], takes .writeSettings (settingsPayload c) (waiting (lost .policy) c) = true ∧
      c.inRange = true) ∧
    endsFallback keeps (settleLinks (waiting (lost .policy) keeps)) = false ∧
    endsFallback ends (settleLinks (waiting (lost .policy) ends)) = true ∧
    (lost .policy).active.entries[(0 : DropNo)].policy = (lost .policy).settings.fallbackPolicy ∧
    (lost .policy).active.entries[(1 : DropNo)].policy ≠ (lost .policy).settings.fallbackPolicy ∧
    (∀ s ∈ [masked, hushed],
      takes .writeSettings (settingsPayload Settings.default) (waiting s Settings.default) = true ∧
      ((settleLinks (waiting s Settings.default)).drop 0).flag .latch = true ∧
      (settleLinks (waiting s Settings.default)).deviceFlag .mapApplied = true ∧
      leadsTo .writeSettings (waiting s Settings.default) (fun t => t.noticePending = true) = true) ∧
    takes .writeSettings (settingsPayload hushed.settings) (waiting hushed hushed.settings) = true := by decide +kernel

theorem witness_PolicyIsWritten :
    let p := [0x21, 9, 1] ++ encodePolicy hasty
    takes .writePolicy p (asked p) = true ∧ hasty.inRange = true ∧ watched.inRange = true ∧
      (settleLinks (asked p)).policyIndex 0 = 1 ∧ (settleLinks (asked p)).policyIndex 1 ≠ 1 := by decide +kernel

theorem witness_ReportLayouts : (base.drop 0).accepted = none ∧ (base.drop 0).lastFaulty = none ∧
    (at0 (fun d => { d with accepted := some 0x80, lastFaulty := some .runt }) base).classOf 0x80 = .fault := by
  decide +kernel

/-- Code 42 lies in entries 1 and 3, at 40 and 49 are the ends of entry 1, and 50 lies in none. -/
theorem witness_ReportLayouts_class :
    let holds : DropNo → Nat → Bool := fun e a => exampleClasses[e].valid &&
      decide (exampleClasses[e].low.toNat ≤ a) && decide (a ≤ exampleClasses[e].high.toNat)
    (∀ a ∈ [40, 42, 49], holds 1 a = true ∧ holds 0 a = false) ∧ holds 3 42 = true ∧ ∀ e, holds e 50 = false := by
  decide +kernel

theorem witness_RecordsRoundTrip : watched.inRange = true ∧
    decodePolicy (encodePolicy watched) = some watched ∧ (encodePolicy watched).length = 52 ∧
    decodeSettings (encodeSettings Settings.default) = some Settings.default ∧
    (encodeSettings Settings.default).length = 11 := by decide +kernel

/-! ### Witnesses: the laws -/

/-- The base with commands waiting. -/
def busy : State := { base with pending := [.dropArrival 0 (data 2), .grantDecision] }

theorem witness_step : ∃ t, step busy = .next t := ⟨_, rfl⟩

theorem witness_StepKeepsQueuesBounded : QueuesBounded busy := by unfold QueuesBounded; decide +kernel

theorem witness_StepKeepsClosedGatesEmpty : ClosedGatesEmpty busy := by unfold ClosedGatesEmpty; decide +kernel

theorem witness_StepKeepsMapLaws : MapsLaw busy ∧ VacantExactly busy := by
  refine ⟨⟨?_, ?_, witness_RoutingAnswer⟩, ?_⟩
  · unfold MapInRange; decide +kernel
  · unfold MapInRange; decide +kernel
  · unfold VacantExactly; decide +kernel

theorem witness_StepKeepsRanges : CountsInRange busy ∧ RecordsAndTimersInRange busy ∧ PresenceLaw busy := by
  have loss : busy.lossTimer = none := by decide +kernel
  have holdoff : busy.holdoff = none := by decide +kernel
  have none' : ∀ k, ((busy.drop k).mon .err).timer = none ∧ ((busy.drop k).mon .rate).timer = none ∧
      ((busy.drop k).mon .sil).timer = none ∧ ((busy.drop k).mon .stat).timer = none ∧
      (busy.drop k).decay = none ∧ (busy.drop k).latchTimer = none ∧ (busy.drop k).candidate = none := by
    decide +kernel
  refine ⟨by unfold CountsInRange; decide +kernel, ⟨by decide +kernel, by decide +kernel, ?_, ?_, ?_⟩, ?_⟩
  · simp [loss, LeftIn]
  · simp [holdoff, LeftIn]
  · intro k
    refine ⟨fun m n h => ?_, fun n h => ?_, fun n h => ?_⟩
    · cases m <;> simp [none' k] at h
    · simp [none' k] at h
    · simp [none' k] at h
  · intro k c h
    simp [none' k] at h

theorem witness_StepKeepsMonitorLaw : MonitorLaw busy := by
  intro k m
  cases m <;> revert k <;> decide +kernel

theorem witness_StepKeepsContextFits : ContextFitsPolicy busy := by unfold ContextFitsPolicy; decide +kernel

theorem witness_StepKeepsManagementLaws : LossTimerLaw busy ∧ NoticeLaw busy ∧ ResetPendingLaw busy := by
  refine ⟨by unfold LossTimerLaw; decide +kernel, by unfold NoticeLaw; decide +kernel, ?_, ?_⟩
  · intro r h; cases h
  · intro t h; cases h

end Sys2Proof.Tests
end

section
/-! Frames (chapter 1): octet order, the check value, the octets of a frame the part builds, and the tests of the
frame checker in their order. -/
namespace Sys2Proof.Machine
open Sys2Proof Sys2Proof.Safety

/-! ### Octet order -/

/-- The two octets of a number, read high octet first, are the number. -/
@[simp] theorem word_extractLsb' (w : Addr) : word (w.extractLsb' 8 8) (w.extractLsb' 0 8) = w := by
  unfold word
  ext i hi
  simp only [BitVec.getElem_append, BitVec.getElem_extractLsb']
  split
  · simp [BitVec.getLsbD_eq_getElem hi]
  · have : 8 + (i - 8) = i := by omega
    simp [this, BitVec.getLsbD_eq_getElem hi]

theorem octetAt_append_right (l r : List Byte) (i : Nat) : octetAt (l ++ r) (l.length + i) = octetAt r i := by
  simp [octetAt, List.getD, List.getElem?_append_right]

/-- A number written at the end of a list stands at the list's last two octets. -/
theorem wordAt_append_right (l : List Byte) (hi lo : Byte) : wordAt (l ++ [hi, lo]) l.length = word hi lo := by
  have h₀ := octetAt_append_right l [hi, lo] 0
  have h₁ := octetAt_append_right l [hi, lo] 1
  rw [Nat.add_zero] at h₀
  rw [wordAt, h₀, h₁]
  rfl

/-- What a receiver stores of a frame's first octets (R2) is what the line gave. -/
theorem octetAt_take {l : List Byte} {i n : Nat} (h : i < n) : octetAt (l.take n) i = octetAt l i := by
  simp [octetAt, List.getD, h]

/-! ### The check value (R7) -/

theorem crc16_append_octet (l : List Byte) (o : Byte) : crc16 (l ++ [o]) = crcOctet (crc16 l) o := by
  simp [crc16]

/-- R7: the check compares the last two octets with the check value of all octets before them. -/
theorem checkMatches_append (l : List Byte) (hi lo : Byte) :
    checkMatches (l ++ [hi, lo]) = true ↔ crc16 l = word hi lo := by
  have hlen : (l ++ [hi, lo]).length - 2 = l.length := by simp
  rw [checkMatches, hlen, wordAt_append_right, List.take_left, beq_iff_eq]

theorem checkMatches_append_crc16 (l : List Byte) : checkMatches (l ++ octets16 (crc16 l)) = true :=
  (checkMatches_append l _ _).mpr (word_extractLsb' _).symm

/-! ### A frame the part builds (R8) -/

section
variable (dest src : Addr) (kind : Byte) (payload : List Byte)

/-- The octets of R8 one by one: six before the payload, two of the check behind it. -/
theorem buildFrame_eq : ∃ hi lo, buildFrame dest src kind payload =
    dest.extractLsb' 8 8 :: dest.extractLsb' 0 8 :: src.extractLsb' 8 8 :: src.extractLsb' 0 8 :: kind ::
      octet payload.length :: (payload ++ [hi, lo]) :=
  ⟨_, _, rfl⟩

theorem length_buildFrame : (buildFrame dest src kind payload).length = payload.length + 8 := by
  obtain ⟨hi, lo, h⟩ := buildFrame_eq dest src kind payload
  simp [h]

theorem frameDest_buildFrame : frameDest (buildFrame dest src kind payload) = dest := by
  obtain ⟨hi, lo, h⟩ := buildFrame_eq dest src kind payload
  rw [h]
  exact word_extractLsb' dest

theorem frameSrc_buildFrame : frameSrc (buildFrame dest src kind payload) = src := by
  obtain ⟨hi, lo, h⟩ := buildFrame_eq dest src kind payload
  rw [h]
  exact word_extractLsb' src

theorem frameKind_buildFrame : frameKind (buildFrame dest src kind payload) = kind := by
  obtain ⟨hi, lo, h⟩ := buildFrame_eq dest src kind payload
  rw [h]
  rfl

theorem frameLen_buildFrame : frameLen (buildFrame dest src kind payload) = octet payload.length := by
  obtain ⟨hi, lo, h⟩ := buildFrame_eq dest src kind payload
  rw [h]
  rfl

theorem checkMatches_buildFrame : checkMatches (buildFrame dest src kind payload) = true :=
  checkMatches_append_crc16 _

variable {payload} (hlen : payload.length ≤ 240)
include hlen

theorem frameLen_buildFrame_toNat : (frameLen (buildFrame dest src kind payload)).toNat = payload.length := by
  rw [frameLen_buildFrame, octet, BitVec.toNat_ofNat, Nat.mod_eq_of_lt (by omega)]

theorem framePayload_buildFrame : framePayload (buildFrame dest src kind payload) = payload := by
  rw [framePayload, frameLen_buildFrame_toNat dest src kind hlen]
  obtain ⟨hi, lo, h⟩ := buildFrame_eq dest src kind payload
  simp [h]

/-- A receiver stores the whole of a frame the part builds, and its check matches (R2, R7). -/
theorem receive_buildFrame : receive ⟨buildFrame dest src kind payload, false, 0, 0⟩ =
    { stored := buildFrame dest src kind payload, count := payload.length + 8, checkOk := true } := by
  have hstored : (buildFrame dest src kind payload).take receiverStore = buildFrame dest src kind payload :=
    List.take_of_length_le (by rw [length_buildFrame, receiverStore]; omega)
  simp only [receive, hstored, length_buildFrame, checkMatches_buildFrame, Bool.not_false, Bool.and_true]

end

/-! ### The tests of the frame checker (R9 to R12) -/

section
variable (port : Port) (inRange : DropNo → Addr → Bool) {r : Reception}

theorem kindHeartbeat_eq : kindHeartbeat = 0x02 := rfl

/-- R11: the three cases of the LENGTH test. -/
theorem lengthFails_iff (r : Reception) : lengthFails r = true ↔
    240 < (frameLen r.stored).toNat ∨ r.count ≠ (frameLen r.stored).toNat + 8 ∨
      (frameKind r.stored = 0x02 ∧ ((frameLen r.stored).toNat = 0 ∨
        (17 ≤ (frameLen r.stored).toNat ∧ (frameLen r.stored).toNat ≤ 240))) := by
  simp only [lengthFails, kindHeartbeat_eq, Bool.or_eq_true, Bool.and_eq_true, decide_eq_true_eq, beq_iff_eq, or_assoc]
  by_cases hk : frameKind r.stored = 0x02
  · simp only [hk, true_and]
    omega
  · simp only [hk, false_and, or_false]
    omega

theorem faultyReason_of_runt (h : r.count < 8) : faultyReason port inRange r = some .runt := by
  simp [faultyReason, h]

theorem faultyReason_of_check (h : 8 ≤ r.count) (hc : r.checkOk = false) :
    faultyReason port inRange r = some .check := by
  simp [faultyReason, Nat.not_lt.mpr h, hc]

theorem faultyReason_of_length (h : 8 ≤ r.count) (hc : r.checkOk = true) (hl : lengthFails r = true) :
    faultyReason port inRange r = some .length := by
  simp [faultyReason, Nat.not_lt.mpr h, hc, hl]

/-- R9: a frame that passes RUNT, CHECK and LENGTH is left to the KIND and SOURCE tests. -/
theorem faultyReason_of_lengthPasses (h : 8 ≤ r.count) (hc : r.checkOk = true) (hl : lengthFails r = false) :
    faultyReason port inRange r =
      if kindFails port r then some .kind else if sourceFails port inRange r then some .source else none := by
  simp [faultyReason, Nat.not_lt.mpr h, hc, hl]

/-- Behind the first three tests none of their reasons is given. -/
theorem faultyReason_not_early (h : 8 ≤ r.count) (hc : r.checkOk = true) (hl : lengthFails r = false) :
    faultyReason port inRange r ≠ some .runt ∧ faultyReason port inRange r ≠ some .check ∧
      faultyReason port inRange r ≠ some .length := by
  rw [faultyReason_of_lengthPasses port inRange h hc hl]
  split
  · simp
  · split <;> simp

/-- R9: which of the first three tests a frame fails, or that it passes them. -/
theorem frameTests_cases (r : Reception) : r.count < 8 ∨ (8 ≤ r.count ∧ r.checkOk = false) ∨
    (8 ≤ r.count ∧ r.checkOk = true ∧ lengthFails r = true) ∨
    (8 ≤ r.count ∧ r.checkOk = true ∧ lengthFails r = false) := by
  rcases Nat.lt_or_ge r.count 8 with h | h
  · exact .inl h
  · cases r.checkOk <;> cases lengthFails r <;> simp [h]

theorem faultyReason_eq_runt_iff (r : Reception) : faultyReason port inRange r = some .runt ↔ r.count < 8 := by
  refine ⟨fun h => ?_, faultyReason_of_runt port inRange⟩
  rcases frameTests_cases r with hr | ⟨h8, hc⟩ | ⟨h8, hc, hl⟩ | ⟨h8, hc, hl⟩
  · exact hr
  · simp [faultyReason_of_check port inRange h8 hc] at h
  · simp [faultyReason_of_length port inRange h8 hc hl] at h
  · exact absurd h (faultyReason_not_early port inRange h8 hc hl).1

theorem faultyReason_eq_check_iff (r : Reception) :
    faultyReason port inRange r = some .check ↔ 8 ≤ r.count ∧ r.checkOk = false := by
  refine ⟨fun h => ?_, fun ⟨h8, hc⟩ => faultyReason_of_check port inRange h8 hc⟩
  rcases frameTests_cases r with hr | hc | ⟨h8, hc, hl⟩ | ⟨h8, hc, hl⟩
  · simp [faultyReason_of_runt port inRange hr] at h
  · exact hc
  · simp [faultyReason_of_length port inRange h8 hc hl] at h
  · exact absurd h (faultyReason_not_early port inRange h8 hc hl).2.1

theorem faultyReason_eq_length_iff (r : Reception) :
    faultyReason port inRange r = some .length ↔ 8 ≤ r.count ∧ r.checkOk = true ∧ lengthFails r = true := by
  refine ⟨fun h => ?_, fun ⟨h8, hc, hl⟩ => faultyReason_of_length port inRange h8 hc hl⟩
  rcases frameTests_cases r with hr | ⟨h8, hc⟩ | hl | ⟨h8, hc, hl⟩
  · simp [faultyReason_of_runt port inRange hr] at h
  · simp [faultyReason_of_check port inRange h8 hc] at h
  · exact hl
  · exact absurd h (faultyReason_not_early port inRange h8 hc hl).2.2

/-- R11: more octets than a receiver stores fit no LEN field. -/
theorem lengthFails_of_long (h : 248 < r.count) : lengthFails r = true :=
  (lengthFails_iff r).mpr (by omega)

/-- R12: the five kinds that pass at the trunk. -/
theorem kindFails_trunk (r : Reception) :
    kindFails .trunk r = decide (frameKind r.stored ∉ [0x01, 0x02, 0x10, 0x11, 0x12]) := by
  simp [kindFails, kindData, kindHeartbeat, kindCommand, kindResponse, kindNotice]

/-- R12: the two kinds that pass at a drop port. -/
theorem kindFails_drop (k : DropNo) (r : Reception) :
    kindFails (.drop k) r = decide (frameKind r.stored ∉ [0x01, 0x02]) := by
  simp [kindFails, kindData, kindHeartbeat]

end

theorem receive_checkOk (f : LineFrame) :
    (receive f).checkOk = true ↔ f.violation = false ∧ checkMatches f.octets = true := by
  simp [receive]

theorem frameKind_receive (f : LineFrame) : frameKind (receive f).stored = frameKind f.octets :=
  octetAt_take (by decide)

theorem frameLen_receive (f : LineFrame) : frameLen (receive f).stored = frameLen f.octets :=
  octetAt_take (by decide)

/-- R8, R9: a response or notice that the part builds passes the trunk frame checker. -/
theorem classify_buildFrame (dest src : Addr) {kind : Byte} {payload : List Byte} (inRange : DropNo → Addr → Bool)
    (hkind : kind = 0x11 ∨ kind = 0x12) (hlen : payload.length ≤ 240) :
    (classify .trunk inRange (receive ⟨buildFrame dest src kind payload, false, 0, 0⟩)).reason = none := by
  rw [classify, receive_buildFrame dest src kind hlen]
  have hlf : lengthFails ⟨buildFrame dest src kind payload, payload.length + 8, true⟩ = false := by
    rw [Bool.eq_false_iff, ne_eq, lengthFails_iff, frameKind_buildFrame, frameLen_buildFrame_toNat dest src kind hlen]
    rcases hkind with rfl | rfl <;> simp <;> omega
  rw [faultyReason_of_lengthPasses .trunk inRange (Nat.le_add_left 8 _) rfl hlf, kindFails_trunk, frameKind_buildFrame]
  rcases hkind with rfl | rfl <;> simp [sourceFails]

/-- Settles O5: the fields of R8 octet by octet, the frame checker on them, and R7 bit by bit. -/
theorem originatedFramesAreWellFormed : Obligations.OriginatedFramesAreWellFormed := by
  refine ⟨fun dest src kind payload inRange hkind hlen => ?_, rfl, crc16_append_octet, fun c bit => ?_,
    fun c o => rfl, checkMatches_append⟩
  · exact ⟨length_buildFrame .., frameDest_buildFrame .., frameSrc_buildFrame .., frameKind_buildFrame ..,
      frameLen_buildFrame_toNat _ _ _ hlen, framePayload_buildFrame _ _ _ hlen,
      classify_buildFrame dest src inRange hkind hlen⟩
  · by_cases h : c.msb = bit <;> simp [crcBit, h]

end Sys2Proof.Machine
end

section
/-! Events that close no gate (R51, R52, R126): such an event is its work, without a purge. -/
namespace Sys2Proof.Machine
open Sys2Proof Sys2Proof.Safety

/-- Every gate stands in `t` as in `s`. -/
def GatesKept (s t : State) : Prop := ∀ k, t.upGate k = s.upGate k ∧ t.downGate k = s.downGate k

theorem GatesKept.refl (s : State) : GatesKept s s := fun _ => ⟨rfl, rfl⟩

theorem GatesKept.trans {s t u : State} (h : GatesKept s t) (h' : GatesKept t u) : GatesKept s u :=
  fun k => ⟨(h' k).1.trans (h k).1, (h' k).2.trans (h k).2⟩

/-- R52: an event whose work keeps the gates is its work. -/
theorem event_eq_work {work : State → State} {s : State} (h : GatesKept s (work s)) : event work s = work s :=
  event_of_gates_kept work s h

/-- What the gates read of a drop. -/
def SameGateInputs (d e : DropState) : Prop :=
  e.admission = d.admission ∧ e.monitors.map MonitorRec.closing = d.monitors.map MonitorRec.closing ∧
    e.upHold = d.upHold ∧ e.downHold = d.downHold

theorem SameGateInputs.refl (d : DropState) : SameGateInputs d d := ⟨rfl, rfl, rfl, rfl⟩

theorem SameGateInputs.closing {d e : DropState} (h : SameGateInputs d e) (m : Monitor) :
    (e.mon m).closing = (d.mon m).closing := by
  have := congrArg (fun v => v[Monitor.idx m]) h.2.1
  simpa [DropState.mon] using this

/-- R125: work on the drops that keeps what the gates read keeps the gates. -/
theorem DropsOnly.gatesKept {s t : State} (h : DropsOnly s t) (hd : ∀ k, SameGateInputs (s.drop k) (t.drop k)) :
    GatesKept s t := by
  intro k
  obtain ⟨adm, _, up, down⟩ := hd k
  simp only [State.upGate, State.downGate, DropState.closesUp, DropState.closesDown, adm, up, down,
    h.policyOf, h.isolated, (hd k).closing, and_self]

/-- The same for work at one drop. -/
theorem DropOnly.gatesKept {k : DropNo} {s t : State} (h : DropOnly k s t)
    (hd : SameGateInputs (s.drop k) (t.drop k)) : GatesKept s t :=
  h.rest.gatesKept fun j => if hj : j = k then hj ▸ hd else by rw [h.others j hj]; exact .refl _

theorem modDrop_gatesKept {k : DropNo} {f : DropState → DropState} {s : State}
    (h : SameGateInputs (s.drop k) (f (s.drop k))) : GatesKept s (s.modDrop k f) :=
  (modDrop_dropOnly k f s).gatesKept (by rwa [drop_modDrop_self])

theorem raiseDrop_gatesKept (k : DropNo) (f : DropFlag) (s : State) : GatesKept s (raiseDrop k f s) :=
  (raiseDrop_protect k f s).dropOnly.gatesKept (by rw [raiseDrop_own]; exact .refl _)

theorem countDrop_gatesKept (k : DropNo) (c : DropCounter) (s : State) : GatesKept s (countDrop k c s) :=
  (countDrop_protect k c s).dropOnly.gatesKept (by rw [countDrop_own]; exact .refl _)

theorem DeviceOnly.gatesKept {s t : State} (h : DeviceOnly s t) : GatesKept s t := by
  rw [h]
  exact .refl s

theorem countDevice_gatesKept (c : DeviceCounter) (s : State) : GatesKept s (countDevice c s) :=
  (countDevice_only c s).gatesKept

/-- R125: the gates of a drop neither in PROBATION nor ADMITTED are closed. -/
theorem gates_closed_of_admission {s : State} {k : DropNo} (hp : (s.drop k).admission ≠ .probation)
    (ha : (s.drop k).admission ≠ .admitted) : s.upGate k = false ∧ s.downGate k = false := by
  simp [State.upGate, State.downGate, hp, ha]

theorem gates_closed_of_vacant {s : State} {k : DropNo} (h : (s.drop k).admission = .vacant) :
    s.upGate k = false ∧ s.downGate k = false :=
  gates_closed_of_admission (by simp [h]) (by simp [h])

/-- R52: work at one drop purges nothing when both gates of the drop were closed before it. -/
theorem event_eq_work_of_closed {k : DropNo} {work : State → State} {s : State} (h : DropOnly k s (work s))
    (hc : s.upGate k = false ∧ s.downGate k = false) : event work s = work s := by
  refine closeGates_of_none_closes s (work s) fun j => ?_
  by_cases hj : j = k
  · subst hj
    simp [hc]
  · have hd := h.others j hj
    have kept := gates_congr (s := s) (t := work s) (k := j) (by rw [hd]) (by rw [hd]) (by rw [hd]) (by rw [hd])
      (h.rest.policyOf j) h.rest.isolated
    simp [kept]

/-! ### Work that only the running part does (R16) -/

theorem whenRunning_of_running {s : State} (f : State → State) (h : s.phase = .running) : whenRunning s f = f s :=
  if_pos h

theorem whenRunning_of_not_running {s : State} (f : State → State) (h : s.phase ≠ .running) : whenRunning s f = s :=
  if_neg h

end Sys2Proof.Machine
end

section
/-! The frame tests at the trunk port: a faulty frame is counted and not routed (R9 to R12, R47). -/
namespace Sys2Proof.Machine
open Sys2Proof Sys2Proof.Safety

/-- R2: a frame of at least 8 octets with a matching check and no violation reaches the LENGTH test. -/
theorem faultyReason_receive_length (port : Port) (inRange : DropNo → Addr → Bool) {f : LineFrame}
    (h8 : 8 ≤ f.octets.length) (hv : f.violation = false) (hm : checkMatches f.octets = true)
    (hl : lengthFails (receive f) = true) : faultyReason port inRange (receive f) = some .length :=
  faultyReason_of_length port inRange h8 ((receive_checkOk f).mpr ⟨hv, hm⟩) hl

/-- R47: a frame that the trunk frame checker finds faulty is counted TRUNK_FAULTY, and nothing else happens. -/
theorem exec_trunkArrival_faulty {s : State} {f : LineFrame} {reason : FaultyReason} (hs : s.phase = .running)
    (ha : Arrives f (ready s)) (hr : faultyReason .trunk (ready s).active.inRange (receive f) = some reason) :
    exec (.trunkArrival f) s = .next (countDevice .trunkFaulty (ready s)) := by
  have work : trunkArrival f (ready s) = countDevice .trunkFaulty (ready s) := by
    simp [trunkArrival, (arrives_iff f (ready s)).mpr ha, downstream, arrived, classify, hr]
  have kept : GatesKept (ready s) (trunkArrival f (ready s)) := work ▸ countDevice_gatesKept _ _
  simp only [exec, execTrunkArrival, whenRunning_of_running _ hs, event_eq_work kept, work]

/-- R12: at the trunk KIND alone decides, and at a drop port KIND before SOURCE. -/
theorem faultyReason_kind_source (inRange : DropNo → Addr → Bool) (r : Reception) (k : DropNo) (h8 : 8 ≤ r.count)
    (hc : r.checkOk = true) (hl : lengthFails r = false) :
    (faultyReason .trunk inRange r =
      if frameKind r.stored ∈ [0x01, 0x02, 0x10, 0x11, 0x12] then none else some .kind) ∧
    (faultyReason (.drop k) inRange r =
      if frameKind r.stored ∉ [0x01, 0x02] then some .kind
      else if inRange k (frameSrc r.stored) = false then some .source else none) := by
  rw [faultyReason_of_lengthPasses _ _ h8 hc hl, faultyReason_of_lengthPasses _ _ h8 hc hl, kindFails_trunk,
    kindFails_drop]
  constructor
  · by_cases hk : frameKind r.stored ∈ [0x01, 0x02, 0x10, 0x11, 0x12]
    · simp only [hk, not_true_eq_false, decide_false, sourceFails, Bool.false_eq_true, if_false, if_true]
    · simp only [hk, not_false_eq_true, decide_true, if_false, if_true]
  · simp only [decide_eq_true_eq, sourceFails, Bool.not_eq_true']

/-- Settles O6: each test in its place; an arriving HEARTBEAT of LEN 0 is one of the cases of LENGTH at the trunk. -/
theorem frameTests : Obligations.FrameTests := by
  refine ⟨⟨fun port inRange r => ⟨faultyReason_eq_runt_iff port inRange r, faultyReason_eq_check_iff port inRange r⟩,
    fun port inRange f => ⟨fun h5 => ?runt, fun h300 hv hm => ?long, fun h300 hbad => ?check⟩⟩,
    ⟨fun port inRange r => ⟨?length, fun h8 hc h248 => ?tooLong⟩, fun s f hs ha h8 hv hm hk h0 => ?heartbeat⟩,
    faultyReason_kind_source⟩
  case runt => exact faultyReason_of_runt port inRange (show f.octets.length < 8 by omega)
  case long =>
    exact faultyReason_receive_length port inRange (by omega) hv hm
      (lengthFails_of_long (show 248 < f.octets.length by omega))
  case check =>
    refine faultyReason_of_check port inRange (show 8 ≤ f.octets.length by omega) ?_
    rw [Bool.eq_false_iff, ne_eq, receive_checkOk]
    rcases hbad with h | h <;> simp [h]
  case length => rw [faultyReason_eq_length_iff, lengthFails_iff]
  case tooLong => exact faultyReason_of_length port inRange h8 hc (lengthFails_of_long h248)
  case heartbeat =>
    refine exec_trunkArrival_faulty hs ha (faultyReason_receive_length _ _ h8 hv hm ((lengthFails_iff _).mpr ?_))
    rw [frameKind_receive, frameLen_receive]
    exact .inr (.inr ⟨hk, .inl h0⟩)

end Sys2Proof.Machine
end

section
/-! Resets (R3, R16, R18, R23): what every block holds when the part is held in reset and at the end of start-up, and
the laws of the spec in the state right after reset. -/
namespace Sys2Proof.Machine
open Sys2Proof Sys2Proof.Safety

/-! ### The values after reset -/

section
variable (straps : BitVec 4)

@[simp] theorem drop_afterStartUp (k : DropNo) : (State.afterStartUp straps).drop k = .atReset := by
  simp [State.drop, State.afterStartUp]

theorem entries_atReset (k : DropNo) : (DropMap.atReset straps).entries[k] = { sizeCode := 0, policy := 0 } := by
  simp [DropMap.atReset]

@[simp] theorem size_atReset (k : DropNo) : (DropMap.atReset straps).size k = 0 := by
  rw [DropMap.size, entries_atReset]
  rfl

/-- R22: with every size 0, no range holds an address. -/
@[simp] theorem inRange_atReset (k : DropNo) (a : Addr) : (DropMap.atReset straps).inRange k a = false := by
  simp only [DropMap.inRange, size_atReset, Bool.and_eq_false_iff, decide_eq_false_iff_not]
  omega

/-- R61: after reset the default record governs every drop. -/
@[simp] theorem policyOf_afterStartUp (k : DropNo) : (State.afterStartUp straps).policyOf k = Policy.default := by
  simp [State.policyOf, State.afterStartUp]

theorem mapAtReset_atReset : MapAtReset straps (DropMap.atReset straps) :=
  ⟨rfl, rfl, rfl, fun k => by rw [entries_atReset]; exact ⟨rfl, rfl⟩⟩

end

@[simp] theorem mon_atReset (m : Monitor) :
    DropState.atReset.mon m = { state := .clear, condition := false, timer := none } := by
  simp [DropState.mon, DropState.atReset, MonitorRec.atReset]

@[simp] theorem flag_atReset (f : DropFlag) : DropState.atReset.flag f = false := by
  simp [DropState.flag, DropState.atReset]

@[simp] theorem count_atReset (c : DropCounter) : DropState.atReset.count c = 0 := by
  simp [DropState.count, DropState.atReset]

theorem snap_atReset (c : DropCounter) : DropState.atReset.snap[DropCounter.idx c] = 0 := by
  simp [DropState.atReset]

/-- R4, R13, R15, R17, R38, R58, R81: every block of the part at the end of start-up. -/
theorem blocksAtReset_afterStartUp (straps : BitVec 4) : BlocksAtReset (State.afterStartUp straps) := by
  refine ⟨rfl, rfl, rfl, rfl, rfl, rfl, rfl, rfl, rfl, rfl, rfl, fun f => ?flags, fun c => ?counts, fun k => ?drops⟩
  case flags => simp [State.deviceFlag, State.afterStartUp]
  case counts => simp [State.deviceCount, State.afterStartUp]
  case drops =>
    rw [drop_afterStartUp, policyOf_afterStartUp]
    exact ⟨mon_atReset, rfl, rfl, rfl, rfl, rfl, rfl, rfl, rfl, rfl, rfl, rfl, rfl, rfl, rfl, rfl, rfl, rfl, rfl, rfl,
      flag_atReset, fun c => ⟨count_atReset c, snap_atReset c⟩⟩

/-! ### The part held in reset -/

/-- R3, R16: what `holdInReset` leaves, in the words of the statements. -/
theorem holdInReset_holds (cause : ResetCause) (s : State) :
    (holdInReset cause s).phase = .held cause ∧ (holdInReset cause s).pins = s.pins ∧
      (holdInReset cause s).lastCause = s.lastCause ∧ ReceptionEnded s (holdInReset cause s) ∧
      BlocksAtReset (holdInReset cause s) :=
  ⟨rfl, rfl, rfl, rfl, blocksAtReset_afterStartUp s.pins.asel⟩

/-- R16: RESET_N low for long enough, past the test of its length. -/
theorem lineReset_running {n : Nat} {s : State} (h : 10 ≤ n) (hp : s.phase = .running) :
    lineReset n s = holdInReset .line { s with pins := { s.pins with resetNHigh := false } } := by
  simp only [lineReset, lineResetMicros, Nat.not_lt.mpr h, if_false, hp]

theorem lineReset_startUp {n : Nat} {s : State} {cause : ResetCause} (h : 10 ≤ n) (hp : s.phase = .startUp cause) :
    lineReset n s = holdInReset cause { s with pins := { s.pins with resetNHigh := false } } := by
  simp only [lineReset, lineResetMicros, Nat.not_lt.mpr h, if_false, hp]

theorem lineReset_held {n : Nat} {s : State} {cause : ResetCause} (h : 10 ≤ n) (hp : s.phase = .held cause) :
    lineReset n s = { s with pins := { s.pins with resetNHigh := false } } := by
  simp only [lineReset, lineResetMicros, Nat.not_lt.mpr h, if_false, hp]

theorem resetRelease_held {s : State} {cause : ResetCause} (stable high : Bool) (hp : s.phase = .held cause) :
    resetRelease stable high s = { s with
      phase := if stable = true ∧ high = true then .startUp cause else .held cause
      pins := { s.pins with supplyStable := stable, resetNHigh := high } } := by
  cases stable <;> cases high <;> simp [resetRelease, hp]

/-- Settles O7, by the phase that each reset row finds. -/
theorem resetLinesHoldThePart : Obligations.ResetLinesHoldThePart := by
  refine ⟨⟨fun s => ⟨_, rfl, holdInReset_holds _ _⟩, fun s n h => ?short, fun s n h hp => ?running,
    fun s n cause h hp => ?startUp, fun s n cause h hp => ?held⟩, fun s cause stable high hp => ?release⟩
  case short => exact congrArg Host.Outcome.next (if_pos h)
  case running => exact ⟨_, rfl, lineReset_running h hp ▸ holdInReset_holds .line _⟩
  case startUp => exact ⟨_, rfl, lineReset_startUp h hp ▸ holdInReset_holds cause _⟩
  case held => rw [exec, execLineReset, lineReset_held h hp]
  case release => rw [exec, execResetRelease, resetRelease_held stable high hp]

/-- Settles O8: the end of start-up gives every block the values of `State.afterStartUp`. -/
theorem endOfStartUpValues : Obligations.EndOfStartUpValues := by
  intro s cause straps hp
  have hexec : exec (.endOfStartUp straps) s = .next { State.afterStartUp straps with
      resets := s.resets + 1, lastCause := cause, pins := { s.pins with asel := straps }, pending := s.pending } := by
    rw [exec, execEndOfStartUp, endOfStartUp, hp]
  have vacant : ∀ k, ((State.afterStartUp straps).drop k).admission = .vacant := fun k => by
    rw [drop_afterStartUp]
    rfl
  refine ⟨_, hexec, rfl, blocksAtReset_afterStartUp straps, rfl, rfl, rfl, rfl, mapAtReset_atReset straps,
    mapAtReset_atReset straps, fun n => ?policies, fun n => ?classes, rfl, fun k => ⟨vacant k, ?level, ?gates⟩⟩
  case policies => simp [State.afterStartUp]
  case classes => simp [State.afterStartUp]
  case level => exact congrArg DropState.level (drop_afterStartUp straps k)
  case gates => exact gates_closed_of_vacant (vacant k)

/-! ### The laws in the state right after reset -/

@[simp] theorem drop_reset (k : DropNo) : State.reset.drop k = .atReset := drop_afterStartUp _ k

@[simp] theorem policyOf_reset (k : DropNo) : State.reset.policyOf k = Policy.default := policyOf_afterStartUp _ k

theorem mapInRange_atReset (straps : BitVec 4) : MapInRange (DropMap.atReset straps) :=
  ⟨by simp [DropMap.atReset], by simp [DropMap.atReset], fun k => .inl (by rw [entries_atReset])⟩

/-- R28: with no range there is nothing to overlap; the straps leave the own address in FFE0h to FFEFh. -/
theorem planeLaw_atReset (straps : BitVec 4) : PlaneLaw (DropMap.atReset straps) := by
  have own : ∀ a : BitVec 4, (0xFFE0 + a.setWidth 16 : Addr) ≠ 0x0000 ∧ (0xFFE0 + a.setWidth 16 : Addr) ≠ 0xFFFF := by
    decide
  exact ⟨by simp, by simp, by simp, own straps⟩

theorem queuesBounded_reset : QueuesBounded State.reset :=
  ⟨fun k => by simp [DropState.atReset], Nat.zero_le _, Nat.zero_le _⟩

theorem closedGatesEmpty_reset : ClosedGatesEmpty State.reset := fun k => by simp [DropState.atReset]

theorem countsInRange_reset : CountsInRange State.reset := fun k => by simp [DropState.atReset]

theorem vacantExactly_reset : VacantExactly State.reset := fun k =>
  iff_of_true (size_atReset _ k) (by rw [drop_reset]; rfl)

/-- A stopped timer lies in every range. -/
theorem leftIn_none (limit : Nat) : LeftIn limit none := fun _ h => nomatch h

theorem recordsAndTimersInRange_reset : RecordsAndTimersInRange State.reset := by
  refine ⟨fun n => ?_, by decide, leftIn_none _, leftIn_none _, fun k => ?_⟩
  · have default : State.reset.policies[n] = Policy.default := by simp [State.reset, State.afterStartUp]
    rw [default]
    decide
  · rw [drop_reset]
    exact ⟨fun m => by rw [mon_atReset]; exact leftIn_none _, leftIn_none _, leftIn_none _⟩

/-- After reset every monitor is CLEAR with a false condition and no timer. -/
theorem monitorLaw_reset : MonitorLaw State.reset := fun k m => by simp

theorem contextFitsPolicy_reset : ContextFitsPolicy State.reset := fun k => by
  simp [DropState.atReset]

/-- Settles O53, law by law. -/
theorem resetStateMeetsTheLaws : Obligations.ResetStateMeetsTheLaws :=
  ⟨queuesBounded_reset, closedGatesEmpty_reset,
    ⟨mapInRange_atReset _, mapInRange_atReset _, planeLaw_atReset _⟩, countsInRange_reset, vacantExactly_reset,
    recordsAndTimersInRange_reset, monitorLaw_reset, contextFitsPolicy_reset,
    ⟨fun _ => iff_of_true rfl rfl, fun h => absurd rfl h⟩, ⟨fun _ => rfl, fun _ => rfl⟩,
    ⟨List.forall_mem_nil _, fun _ h => nomatch h⟩, fun k c h => by rw [drop_reset] at h; exact nomatch h⟩

end Sys2Proof.Machine
end

section
/-! The transmitters (R4, R5, R45, R50, R164): a completion and the holdoff expiry close no gate, so each event is
its work. -/
namespace Sys2Proof.Machine
open Sys2Proof Sys2Proof.Safety

theorem startDrop_of_waiting {k : DropNo} {s : State} {h : HeldFrame} {rest : List HeldFrame}
    (htx : (s.drop k).tx = none) (hq : (s.drop k).downQueue = h :: rest) :
    startDrop k s = s.modDrop k fun d => { d with tx := some h, downQueue := rest } := by
  simp [startDrop, htx, hq]

theorem completeDrop_of_sending {k : DropNo} {s : State} {h : HeldFrame} (htx : (s.drop k).tx = some h) :
    completeDrop k s = countDrop k .downForwarded (s.modDrop k fun d => { d with tx := none }) := by
  simp [completeDrop, htx]

theorem completeDrop_gatesKept (k : DropNo) (s : State) : GatesKept s (completeDrop k s) := by
  unfold completeDrop
  split
  · exact (modDrop_gatesKept ⟨rfl, rfl, rfl, rfl⟩).trans (countDrop_gatesKept _ _ _)
  · exact .refl s

section
variable {s : State} {l : List Byte}

/-- R5, R45: the completion of a forwarded frame on the trunk. -/
theorem completeTrunk_upstream {k : DropNo} (h : s.trunkTx = some { octets := l, source := .upstream k }) :
    completeTrunk s = countDrop k .upForwarded { s with trunkTx := none } := by
  simp only [completeTrunk, h]

theorem completeTrunk_response (h : s.trunkTx = some { octets := l, source := .response false }) :
    completeTrunk s = { s with trunkTx := none } := by
  simp only [completeTrunk, h]

/-- R164: the completion of a notice. -/
theorem completeTrunk_notice (h : s.trunkTx = some { octets := l, source := .notice }) :
    completeTrunk s = { s with trunkTx := none, holdoff := startTimer s.settings.holdoff } := by
  simp only [completeTrunk, h]

/-- A completion on the trunk closes no gate, but for that of the response to RESET (R145). -/
theorem completeTrunk_gatesKept {source : TrunkSource} (h : s.trunkTx = some { octets := l, source := source })
    (hr : source ≠ .response true) : GatesKept s (completeTrunk s) := by
  match source, hr with
  | .upstream k, _ =>
    rw [completeTrunk_upstream h]
    exact .trans (t := { s with trunkTx := none }) (.refl s) (countDrop_gatesKept _ _ _)
  | .response false, _ =>
    rw [completeTrunk_response h]
    exact .refl s
  | .response true, hr => exact absurd rfl hr
  | .notice, _ =>
    rw [completeTrunk_notice h]
    exact .refl s

/-- A completion on the trunk as a row. -/
theorem exec_trunkCompletion {source : TrunkSource} (hs : s.phase = .running)
    (h : (ready s).trunkTx = some { octets := l, source := source }) (hr : source ≠ .response true) :
    exec .trunkTransmissionCompletion s = .next (completeTrunk (ready s)) := by
  rw [exec, execTrunkTransmissionCompletion, whenRunning_of_running _ hs, event_eq_work (completeTrunk_gatesKept h hr)]

end

theorem holdoffExpiry_of_expired {s : State} (h : s.holdoff = some .expired) :
    holdoffExpiry s = { s with holdoff := none } := if_pos h

theorem holdoffExpiry_gatesKept (s : State) : GatesKept s (holdoffExpiry s) := by
  unfold holdoffExpiry
  split <;> exact .refl s

/-- Settles O25, by the row and, on the trunk, by the source of the frame. -/
theorem transmittersWork : Obligations.TransmittersWork := by
  refine ⟨fun k s h rest hs htx hq => ?start, fun k s h hs htx => ?complete,
    fun s l hs => ⟨fun k htx => ?forwarded, fun htx => ?response, fun htx => ?notice⟩, fun s hs hh => ?holdoff⟩
  case start => rw [exec, execDropTransmitterStart, whenRunning_of_running _ hs, startDrop_of_waiting htx hq]
  case complete =>
    rw [exec, execDropTransmissionCompletion, whenRunning_of_running _ hs,
      event_eq_work (completeDrop_gatesKept k _), completeDrop_of_sending htx]
  case forwarded => rw [exec_trunkCompletion hs htx (by simp), completeTrunk_upstream htx]
  case response => rw [exec_trunkCompletion hs htx (by simp), completeTrunk_response htx]
  case notice =>
    rw [exec_trunkCompletion hs htx (by simp), completeTrunk_notice htx]
    rfl
  case holdoff =>
    rw [exec, execHoldoffExpiry, whenRunning_of_running _ hs, event_eq_work (holdoffExpiry_gatesKept _),
      holdoffExpiry_of_expired hh]

end Sys2Proof.Machine
end

section
/-! The timebase (R14, R15, R17, R74, R76, R108, R118, R121, R148, R168): what a tick, a second boundary and an
accepted presence change do, drop by drop. -/
namespace Sys2Proof.Machine
open Sys2Proof Sys2Proof.Safety

/-! ### A loop that changes every drop -/

/-- Change drop `k` by `g`, which may read the state. -/
def changeDrop (g : State → DropNo → DropState → DropState) (k : DropNo) (s : State) : State := s.modDrop k (g s k)

/-- Such a loop leaves the rest of the state alone. -/
theorem forDrops_changeDrop_rest (g : State → DropNo → DropState → DropState) (s : State) :
    forDrops (changeDrop g) s = { s with drops := (forDrops (changeDrop g) s).drops } :=
  forDrops_keeps (P := fun t => t = { s with drops := t.drops }) (changeDrop g)
    (fun _ t (ht : t = { s with drops := t.drops }) => by rw [ht]; rfl) s rfl

/-- Where `g` reads nothing of the drops but the one it changes, the loop changes each by `g` on the state before it. -/
theorem forDrops_changeDrop_drop (g : State → DropNo → DropState → DropState)
    (hg : ∀ s v, g { s with drops := v } = g s) (s : State) (k : DropNo) :
    (forDrops (changeDrop g) s).drop k = g s k (s.drop k) :=
  forDrops_drop (changeDrop g) (g s) (fun t => t = { s with drops := t.drops })
    (fun _ t (ht : t = { s with drops := t.drops }) => by rw [ht]; rfl)
    (fun k t _ j hj => drop_modDrop_ne _ hj)
    (fun k t (ht : t = { s with drops := t.drops }) => by
      have same : g t = g s := by rw [ht, hg]
      rw [changeDrop, drop_modDrop_self, same]) s rfl k

/-! ### One tick of one drop -/

/-- R14: the candidate after a sample of level `lv` that is not the held level. -/
def nextCandidate (debounce : Nat) (lv : Level) (c : Option Candidate) : Candidate :=
  c.elim { target := lv, remaining := .left debounce } fun a => { a with remaining := tickCountdown a.remaining }

theorem samplePresence_eq (debounce : Nat) (lv : Level) (d : DropState) : samplePresence debounce lv d =
    { d with candidate := if lv = d.level then none else some (nextCandidate debounce lv d.candidate) } := by
  cases hc : d.candidate with
  | none =>
    by_cases h : lv = d.level
    · simp only [samplePresence, hc, h, if_true]
      rw [← hc]
    · simp only [samplePresence, hc, h, if_false, nextCandidate, Option.elim_none]
  | some c =>
    by_cases h : lv = d.level <;>
      simp only [samplePresence, hc, h, if_true, if_false, nextCandidate, Option.elim_some]

theorem refillCredit_eq (p : Policy) (d : DropState) : refillCredit p d =
    { d with credit := if d.credit < p.depth then min p.depth (d.credit + p.refill) else d.credit } := by
  unfold refillCredit
  split <;> rfl

theorem advanceSilence_eq (d : DropState) : advanceSilence d =
    { d with silence := if d.admission = .vacant then d.silence else min 60000 (d.silence + 1) } := by
  unfold advanceSilence
  by_cases h : d.admission = .vacant
  · rw [if_pos (by simp [DropState.isVacant, h]), if_pos h]
  · rw [if_neg (by simp [DropState.isVacant, h]), if_neg h]
    rfl

/-- R17: every monitor keeps its state and condition, and its timer counts down. -/
theorem tickMonitors_mon (d : DropState) (m : Monitor) :
    (tickMonitors d).mon m = { d.mon m with timer := (d.mon m).timer.map tickCountdown } := by
  cases m <;> simp [tickMonitors, allMonitors, mon_setMon_ne, tickTimer]

/-- What one tick makes of drop `k` of state `s`. -/
def tickedDrop (first : Bool) (pres : BitVec 16) (s : State) (k : DropNo) (d : DropState) : DropState :=
  tickMonitors (advanceSilence (refillCredit (s.policyOf k)
    (if first then firstSample (sampleLevel pres k) d
      else samplePresence s.settings.debounce (sampleLevel pres k) d)))

/-- R14, R15, R74, R76: the sample, the refill and the silence count of a tick field by field, before the countdown of
the monitor timers. -/
theorem tickedDrop_eq (sampled : Bool) (pres : BitVec 16) (s : State) (k : DropNo) (d : DropState) :
    tickedDrop (!sampled) pres s k d = tickMonitors { d with
      level := if sampled then d.level else sampleLevel pres k
      candidate := if sampled = false ∨ sampleLevel pres k = d.level then none
        else some (nextCandidate s.settings.debounce (sampleLevel pres k) d.candidate)
      credit := if d.credit < (s.policyOf k).depth then min (s.policyOf k).depth (d.credit + (s.policyOf k).refill)
        else d.credit
      silence := if d.admission = .vacant then d.silence else min 60000 (d.silence + 1) } := by
  rw [tickedDrop, advanceSilence_eq, refillCredit_eq]
  cases sampled with
  | false => simp [firstSample]
  | true => simp [samplePresence_eq]

/-- R14 to R17: a tick moves the timebase and changes every drop by `tickedDrop`. -/
theorem tick_rest (pres : BitVec 16) (s : State) : tick pres s = { s with
    timebase := s.timebase + 1, boundaryDue := decide ((s.timebase + 1) % 1000 = 0), sampled := true
    holdoff := s.holdoff.map tickCountdown, pins := { s.pins with pres := pres }, drops := (tick pres s).drops } :=
  forDrops_changeDrop_rest (tickedDrop (!s.sampled) pres) _

theorem tick_drop (pres : BitVec 16) (s : State) (k : DropNo) :
    (tick pres s).drop k = tickedDrop (!s.sampled) pres s k (s.drop k) :=
  forDrops_changeDrop_drop (tickedDrop (!s.sampled) pres) (fun _ _ => rfl) _ k

/-- Settles O26: the device by `tick_rest`, each drop by `tickedDrop_eq`. -/
theorem millisecondTickAdvances : Obligations.MillisecondTickAdvances := by
  refine ⟨⟨rfl, fun n hn => if_neg (by omega)⟩,
    fun s pres hs => ⟨tick pres (catchUp s), ?exec, ?rest, fun k => ?drop⟩⟩
  case exec => rw [exec, execMillisecondTick, whenRunning_of_running _ hs]
  case rest => exact tick_rest pres (catchUp s)
  case drop =>
    generalize catchUp s = c
    simp only [tick_drop, tickedDrop_eq]
    refine ⟨rfl, rfl, ?candidate, rfl, rfl, tickMonitors_mon _⟩
    case candidate => cases (c.drop k).candidate <;> rfl

/-! ### A second boundary -/

theorem advanceElapsed_eq (d : DropState) : advanceElapsed d = { d with
    elapsed := if d.admission = .probation ∧ d.level = .present ∧ d.elapsed < 3600 then d.elapsed + 1
      else d.elapsed } := by
  unfold advanceElapsed elapsedMax
  split <;> rfl

/-- What a second boundary makes of a drop of state `s`, field by field (R108, R114, R120, R168). -/
def boundedDrop (s : State) (_ : DropNo) (d : DropState) : DropState :=
  { d with
    decay := d.decay.map tickCountdown, latchTimer := d.latchTimer.map tickCountdown
    elapsed := if d.admission = .probation ∧ d.level = .present ∧ d.elapsed < 3600 then d.elapsed + 1 else d.elapsed
    snap := if s.settings.snapshot then d.live else d.snap
    live := if s.settings.snapshot then Vector.replicate 10 0 else d.live }

theorem boundaryDrop_eq : boundaryDrop = changeDrop boundedDrop := by
  funext k s
  refine congrArg (s.modDrop k) (funext fun d => ?_)
  simp only [boundedDrop, advanceElapsed_eq]
  cases s.settings.snapshot <;> rfl

theorem secondBoundary_rest {s : State} (h : s.boundaryDue = true) : secondBoundary s = { s with
    boundaryDue := false, lossTimer := s.lossTimer.map tickCountdown, drops := (secondBoundary s).drops
    snapDevice := if s.settings.snapshot then s.liveDevice else s.snapDevice
    liveDevice := if s.settings.snapshot then Vector.replicate 6 0 else s.liveDevice } := by
  have loop := forDrops_changeDrop_rest boundedDrop
    { s with boundaryDue := false, lossTimer := tickTimer s.lossTimer }
  simp only [secondBoundary, h, if_true, boundaryDrop_eq]
  rw [loop]
  cases s.settings.snapshot <;> rfl

theorem secondBoundary_drop {s : State} (h : s.boundaryDue = true) (k : DropNo) :
    (secondBoundary s).drop k = boundedDrop s k (s.drop k) := by
  have loop : (secondBoundary s).drops = (forDrops (changeDrop boundedDrop)
      { s with boundaryDue := false, lossTimer := tickTimer s.lossTimer }).drops := by
    simp only [secondBoundary, h, if_true, boundaryDrop_eq]
    split <;> rfl
  rw [drop_congr loop, forDrops_changeDrop_drop boundedDrop fun _ _ => rfl]
  rfl

/-- R125: a second boundary touches nothing that a gate reads. -/
theorem secondBoundary_gatesKept {s : State} (h : s.boundaryDue = true) : GatesKept s (secondBoundary s) := by
  have drops : GatesKept s { s with drops := (secondBoundary s).drops } :=
    DropsOnly.gatesKept rfl fun k => (secondBoundary_drop h k).symm ▸ ⟨rfl, rfl, rfl, rfl⟩
  rw [secondBoundary_rest h]
  exact drops

/-- Settles O31: a second boundary closes no gate, so its event is `secondBoundary`. -/
theorem secondBoundaryTaken : Obligations.SecondBoundaryTaken := by
  intro s hs hb
  refine ⟨secondBoundary (settle s), ?_, secondBoundary_rest hb, secondBoundary_drop hb⟩
  rw [exec, execSecondBoundary, whenRunning_of_running _ hs, event_eq_work (secondBoundary_gatesKept hb)]

/-! ### An accepted presence change -/

theorem handLevel_of_not_latched {k : DropNo} {s : State} (lv : Level) (h : (s.drop k).admission ≠ .latched) :
    handLevel k lv s = s := if_neg h

theorem handLevel_absent {k : DropNo} {s : State} (h : (s.drop k).admission = .latched) :
    handLevel k .absent s = s.modDrop k fun d => { d with absenceSeen := true } := if_pos h

/-- R121: the release by replacement. -/
theorem handLevel_present {k : DropNo} {s : State} (h : (s.drop k).admission = .latched) :
    handLevel k .present s =
      if (s.drop k).absenceSeen = true ∧ (s.policyOf k).replacementRelease = true then release k s else s := by
  simp only [handLevel, h, if_true, Bool.and_eq_true]

/-- R14: drop `k` with the level `lv` taken and PRESENCE raised, before the Admission Controller is told. -/
def levelTaken (k : DropNo) (lv : Level) (s : State) : State :=
  raiseDrop k .presence (s.modDrop k fun d => { d with level := lv, candidate := none })

theorem levelTaken_own (k : DropNo) (lv : Level) (s : State) : (levelTaken k lv s).drop k =
    { s.drop k with level := lv, candidate := none, flags := ((levelTaken k lv s).drop k).flags } := by
  rw [levelTaken, raiseDrop_own, drop_modDrop_self]

theorem levelTaken_dropOnly (k : DropNo) (lv : Level) (s : State) : DropOnly k s (levelTaken k lv s) :=
  (modDrop_dropOnly k _ s).trans (raiseDrop_protect k .presence _).dropOnly

theorem levelTaken_gatesKept (k : DropNo) (lv : Level) (s : State) : GatesKept s (levelTaken k lv s) :=
  (modDrop_gatesKept ⟨rfl, rfl, rfl, rfl⟩).trans (raiseDrop_gatesKept k .presence _)

theorem acceptPresence_of_expired {k : DropNo} {lv : Level} {s : State}
    (h : (s.drop k).candidate = some { target := lv, remaining := .expired }) :
    acceptPresence k s = handLevel k lv (levelTaken k lv s) := by
  simp only [acceptPresence, h, levelTaken]

/-- R118, R121: what the Admission Controller does with a level stays at the drop. -/
theorem handLevel_dropOnly (k : DropNo) (lv : Level) (s : State) : DropOnly k s (handLevel k lv s) := by
  by_cases h : (s.drop k).admission = .latched
  · cases lv with
    | absent =>
      rw [handLevel_absent h]
      exact modDrop_dropOnly k _ s
    | present =>
      rw [handLevel_present h]
      split
      · exact (release_protect k s (by simp [h])).dropOnly
      · exact .refl k s
  · rw [handLevel_of_not_latched lv h]
    exact .refl k s

/-- R52: an accepted presence change purges nothing. Only a LATCHED drop can be moved by it, and its gates were closed. -/
theorem event_acceptPresence {k : DropNo} {lv : Level} {s : State}
    (h : (s.drop k).candidate = some { target := lv, remaining := .expired }) :
    event (acceptPresence k) s = handLevel k lv (levelTaken k lv s) := by
  have work := acceptPresence_of_expired h
  by_cases hl : (s.drop k).admission = .latched
  · have only : DropOnly k s (acceptPresence k s) :=
      work ▸ (levelTaken_dropOnly k lv s).trans (handLevel_dropOnly k lv _)
    rw [event_eq_work_of_closed only (gates_closed_of_admission (by simp [hl]) (by simp [hl])), work]
  · have same : handLevel k lv (levelTaken k lv s) = levelTaken k lv s :=
      handLevel_of_not_latched lv (by rwa [levelTaken_own])
    have kept : GatesKept s (acceptPresence k s) := by
      rw [work, same]
      exact levelTaken_gatesKept k lv s
    rw [event_eq_work kept, work]

/-- Settles O27, by the admission state and the accepted level. -/
theorem presenceChangeAccepted : Obligations.PresenceChangeAccepted := by
  intro k lv s hs hc
  have row : exec (.presenceChangeAccepted k) s = .next (handLevel k lv (levelTaken k lv (settle s))) := by
    rw [exec, execPresenceChangeAccepted, whenRunning_of_running _ hs, event_acceptPresence hc]
  have admission : ((levelTaken k lv (settle s)).drop k).admission = ((settle s).drop k).admission := by
    rw [levelTaken_own]
  have absence : ((levelTaken k lv (settle s)).drop k).absenceSeen = ((settle s).drop k).absenceSeen := by
    rw [levelTaken_own]
  have policy := (levelTaken_dropOnly k lv (settle s)).rest.policyOf k
  refine ⟨fun hl => ?_, fun hl hlv => ?_, fun hl hlv => ?_⟩
  · rw [row, handLevel_of_not_latched lv fun h => hl (admission.symm.trans h)]
    rfl
  · subst hlv
    rw [row, handLevel_absent (admission.trans hl)]
    rfl
  · subst hlv
    rw [row, handLevel_present (admission.trans hl), absence, policy]
    rfl

end Sys2Proof.Machine
end

section
/-! What the work of one event leaves alone: work at one drop changes that drop and notice-pending, a loop over the
drops changes the drops and notice-pending. -/
namespace Sys2Proof.Machine
open Sys2Proof Sys2Proof.Safety

/-! ### Work at one drop -/

section
variable (k : DropNo) (s : State)

theorem raiseDrop_dropOnly (f : DropFlag) : DropOnly k s (raiseDrop k f s) := (raiseDrop_protect k f s).dropOnly

theorem countDrop_dropOnly (c : DropCounter) : DropOnly k s (countDrop k c s) := (countDrop_protect k c s).dropOnly

theorem condition_dropOnly (m : Monitor) (v : Bool) : DropOnly k s (condition k m v s) :=
  (condition_protect k m v s).dropOnly

theorem enterProbation_dropOnly : DropOnly k s (enterProbation k s) := modDrop_dropOnly k _ s

theorem enterVacant_dropOnly : DropOnly k s (enterVacant k s) := modDrop_dropOnly k _ s

theorem enterBarred_dropOnly : DropOnly k s (enterBarred k s) :=
  (modDrop_dropOnly k _ s).trans (raiseDrop_dropOnly k _ .barred)

theorem release_dropOnly : DropOnly k s (release k s) :=
  (enterProbation_dropOnly k s).trans (raiseDrop_dropOnly k _ .release)

/-- R41: the faulty outcome. -/
theorem faultyOutcome_dropOnly (reason : FaultyReason) : DropOnly k s (faultyOutcome k reason s) :=
  ((countDrop_dropOnly k s .faulty).trans (modDrop_dropOnly k _ _)).trans (appendMark_protect k .faulty _).dropOnly

/-- R44: a frame offered to the upstream queue. -/
theorem offerUpstream_dropOnly (f : HeldFrame) : DropOnly k s (offerUpstream k f s) := by
  unfold offerUpstream
  split
  · exact countDrop_dropOnly k s .gatedUp
  · split
    · exact (countDrop_dropOnly k s .overflowUp).trans (raiseDrop_dropOnly k _ .overflow)
    · exact modDrop_dropOnly k _ s

/-- R43: the RATE credit and the gate. -/
theorem dataFrame_dropOnly (f : HeldFrame) : DropOnly k s (dataFrame k f s) := by
  unfold dataFrame
  split
  · split
    · exact (countDrop_dropOnly k s .overrun).trans (condition_dropOnly k _ .rate true)
    · exact (modDrop_dropOnly k _ s).trans (offerUpstream_dropOnly k _ f)
  · exact offerUpstream_dropOnly k s f

/-- R42: a good frame. -/
theorem goodFrame_dropOnly (f : HeldFrame) : DropOnly k s (goodFrame k f s) := by
  have mark := (appendMark_protect k .good s).dropOnly
  unfold goodFrame
  simp only
  split
  · exact mark.trans (takeHeartbeat_protect k _ _).dropOnly
  · exact mark.trans (dataFrame_dropOnly k _ f)

/-- R40 to R44: a frame on the upstream path stays at its drop. -/
theorem upstream_dropOnly (f : HeldFrame) : DropOnly k s (upstream k f s) := by
  unfold upstream
  split
  · exact countDrop_dropOnly k s .gatedUp
  · split
    · exact faultyOutcome_dropOnly k s _
    · split
      · exact (modDrop_dropOnly k _ s).trans (faultyOutcome_dropOnly k _ .injected)
      · exact goodFrame_dropOnly k s f

theorem dropArrival_dropOnly (f : LineFrame) : DropOnly k s (dropArrival k f s) := by
  unfold dropArrival
  split
  · exact upstream_dropOnly k s _
  · exact .refl k s

/-- R48: a frame offered to drop `k`. -/
theorem offerDownstream_dropOnly (f : HeldFrame) : DropOnly k s (offerDownstream k f s) := by
  unfold offerDownstream
  split
  · exact countDrop_dropOnly k s .gatedDown
  · split
    · exact (countDrop_dropOnly k s .overflowDown).trans (raiseDrop_dropOnly k _ .overflow)
    · exact modDrop_dropOnly k _ s

theorem startDrop_dropOnly : DropOnly k s (startDrop k s) := by
  unfold startDrop
  split
  · exact modDrop_dropOnly k _ s
  · exact .refl k s
  · exact .refl k s

theorem completeDrop_dropOnly : DropOnly k s (completeDrop k s) := by
  unfold completeDrop
  split
  · exact (modDrop_dropOnly k _ s).trans (countDrop_dropOnly k _ .downForwarded)
  · exact .refl k s

/-- R14: an accepted presence change stays at its drop. -/
theorem acceptPresence_dropOnly : DropOnly k s (acceptPresence k s) := by
  unfold acceptPresence
  split
  · exact (levelTaken_dropOnly k _ s).trans (handLevel_dropOnly k _ _)
  · exact .refl k s
  · exact .refl k s

theorem rateFull_dropOnly : DropOnly k s (rateFull k s) := by
  unfold rateFull
  split
  · exact condition_dropOnly k s .rate false
  · exact .refl k s

theorem silenceReached_dropOnly : DropOnly k s (silenceReached k s) := by
  unfold silenceReached
  split
  · exact condition_dropOnly k s .sil true
  · exact .refl k s

theorem delayExpiry_dropOnly (m : Monitor) : DropOnly k s (delayExpiry k m s) := by
  unfold delayExpiry
  split
  · exact (trip_protect k m s).dropOnly
  · exact .refl k s

theorem recoveryExpiry_dropOnly (m : Monitor) : DropOnly k s (recoveryExpiry k m s) := by
  unfold recoveryExpiry
  split
  · exact (recovered_protect k m s).dropOnly
  · exact .refl k s

theorem limitReached_dropOnly : DropOnly k s (limitReached k s) := by
  unfold limitReached
  split
  · exact enterBarred_dropOnly k s
  · exact .refl k s

/-- R114: the expiry of the decay timer, in each of its four cases. -/
theorem decayExpiry_dropOnly : DropOnly k s (decayExpiry k s) := by
  unfold decayExpiry
  simp only
  split
  · split
    · exact modDrop_dropOnly k _ s
    · split
      · exact modDrop_dropOnly k _ s
      · split <;> exact modDrop_dropOnly k _ s
  · exact .refl k s

theorem latchHoldExpiry_dropOnly : DropOnly k s (latchHoldExpiry k s) := by
  unfold latchHoldExpiry
  split
  · split
    · exact release_dropOnly k s
    · exact modDrop_dropOnly k _ s
  · exact .refl k s

/-- R29, R32: a changed policy index. -/
theorem indexChange_dropOnly (old : DropMap) : DropOnly k s (indexChange old k s) := by
  unfold indexChange
  split
  · exact (policyChange_protect k _ s).dropOnly
  · exact .refl k s

/-- R29 to R33: the change-over of one drop. -/
theorem applyDrop_dropOnly (old : DropMap) : DropOnly k s (applyDrop old k s) := by
  have purged := (purgeUp_dropOnly k s).trans (purgeDown_dropOnly k _)
  unfold applyDrop
  simp only
  split
  · split
    · exact indexChange_dropOnly k s old
    · exact purged.trans (enterVacant_dropOnly k _)
  · split
    · exact indexChange_dropOnly k s old
    · exact purged.trans (enterProbation_dropOnly k _)

end

/-! ### Loops over the drops, and whole events -/

theorem forDrops_dropsOnly {f : DropNo → State → State} (h : ∀ k s, DropsOnly s (f k s)) (s : State) :
    DropsOnly s (forDrops f s) :=
  forDrops_rel .refl (fun _ _ _ => .trans) f h s

/-- The purges of an event's end change drops and notice-pending alone, as its work did. -/
theorem event_dropsOnly {work : State → State} {s : State} (h : DropsOnly s (work s)) : DropsOnly s (event work s) :=
  h.trans (closeGates_dropsOnly s (work s))

theorem eventIf_dropsOnly {work : State → State} {s : State} (due : Bool) (h : DropsOnly s (work s)) :
    DropsOnly s (eventIf due work s) := by
  unfold eventIf
  split
  · exact event_dropsOnly h
  · exact .refl s

theorem broadcast_dropsOnly (f : HeldFrame) (s : State) : DropsOnly s (broadcast f s) := by
  refine forDrops_dropsOnly (fun k s => ?_) s
  split
  · exact .refl s
  · exact (offerDownstream_dropOnly k s f).rest

theorem settleLimits_dropsOnly (s : State) : DropsOnly s (settleLimits s) :=
  forDrops_dropsOnly (fun k s => eventIf_dropsOnly _ (limitReached_dropOnly k s).rest) s

theorem settleConditions_dropsOnly (s : State) : DropsOnly s (settleConditions s) :=
  forDrops_dropsOnly (fun k s => (eventIf_dropsOnly _ (rateFull_dropOnly k s).rest).trans
    (eventIf_dropsOnly _ (silenceReached_dropOnly k _).rest)) s

end Sys2Proof.Machine
end

section
/-! All that carrying out a command can do to the state (R131, sections 7.3 to 7.5): one inversion lemma for the whole
command set, so that an invariant looks at seventeen effects and not at every check of every command. -/
namespace Sys2Proof.Machine
open Sys2Proof Sys2Proof.Safety

/-- What a command carried out on `s` can leave, each effect with the guard that its checks give. -/
inductive CommandEffect (s : State) : State → Prop where
  | nothing : CommandEffect s s
  | settings (c : Settings) (range : c.inRange = true) : CommandEffect s (applySettings c s)
  | header (h : MapHeader) (low : h.planeBase ≠ 0x0000) (high : h.planeBase ≠ 0xFFFF) :
      CommandEffect s { s with staging := { s.staging with header := h } }
  | entry (k : DropNo) (e : MapEntry) (range : sizeCodeValid e.sizeCode = true) :
      CommandEffect s { s with staging := { s.staging with entries := s.staging.entries.set k e } }
  | apply (checked : mapReason s.staging = none) : CommandEffect s (applyStaging s)
  | policy (n : Fin 8) (new : Policy) (range : new.inRange = true) : CommandEffect s (replacePolicy n new s)
  | classEntry (n : DropNo) (e : ClassEntry) : CommandEffect s { s with classes := s.classes.set n e }
  | hold (k : DropNo) (up down : Bool → Bool) (used : (s.drop k).isVacant = false) :
      CommandEffect s (s.modDrop k fun d => { d with upHold := up d.upHold, downHold := down d.downHold })
  | release (k : DropNo) (held : (s.drop k).admission = .latched ∨ (s.drop k).admission = .barred) :
      CommandEffect s (release k s)
  | recovery (k : DropNo) (m : Monitor) (tripped : ((s.drop k).mon m).state = .tripped)
      (cleared : ((s.drop k).mon m).condition = false) : CommandEffect s (startRecovery k m s)
  | injection (k : DropNo) (n : Nat) (used : (s.drop k).isVacant = false) :
      CommandEffect s (s.modDrop k fun d => { d with injection := min injectionLimit (d.injection + n) })
  | heartbeat (k : DropNo) (c : Byte) (used : (s.drop k).isVacant = false) : CommandEffect s (takeHeartbeat k c s)
  | dropFlags (k : DropNo) : CommandEffect s (clearDropFlags k s)
  | deviceFlags : CommandEffect s (clearDeviceFlags s)
  | allFlags : CommandEffect s (clearDeviceFlags (forDrops clearDropFlags s))
  | counters : CommandEffect s (clearCounters s)
  | reset : CommandEffect s { s with engine := .resetPending }

/-! ### The checks -/

theorem refuse_effect (st : Status) (s : State) : CommandEffect s (refuse st s).state := .nothing

theorem done_effect (results : List Byte) {s t : State} (h : CommandEffect s t) :
    CommandEffect s (done results t).state := h

section
variable {α : Type} {n : Option α} {s : State} {f : α → Reply}

theorem withIndex_effect (h : ∀ a, n = some a → CommandEffect s (f a).state) :
    CommandEffect s (withIndex n s f).state := by
  cases n with
  | none => exact refuse_effect _ s
  | some a => exact h a rfl

theorem withValue_effect (h : ∀ a, n = some a → CommandEffect s (f a).state) :
    CommandEffect s (withValue n s f).state := by
  cases n with
  | none => exact refuse_effect _ s
  | some a => exact h a rfl

end

/-- R136: a Settings Record that passes its checks lies in the ranges of R135. -/
theorem inRange_of_decodeSettings {l : List Byte} {c : Settings} (h : decodeSettings l = some c) : c.inRange = true := by
  simp only [decodeSettings, Option.bind_eq_bind, Option.bind_eq_some_iff] at h
  obtain ⟨_, _, _, _, _, _, _, _, h⟩ := h
  split at h
  · cases h
    assumption
  · cases h

/-- R60: a policy record that passes its checks lies in the ranges of section 4.1. -/
theorem inRange_of_decodePolicy {l : List Byte} {p : Policy} (h : decodePolicy l = some p) : p.inRange = true := by
  simp only [decodePolicy, Option.bind_eq_bind, Option.bind_eq_some_iff] at h
  obtain ⟨_, _, _, _, _, _, _, _, _, _, h⟩ := h
  split at h
  · cases h
    assumption
  · cases h

/-! ### Each command -/

section
variable (p : List Byte) (s : State)

theorem cmdGetInfo_effect : CommandEffect s (cmdGetInfo p s).state := by
  unfold cmdGetInfo
  split
  · exact done_effect _ .nothing
  · exact refuse_effect _ s

theorem cmdReadSettings_effect : CommandEffect s (cmdReadSettings p s).state := by
  unfold cmdReadSettings
  split
  · exact done_effect _ .nothing
  · exact refuse_effect _ s

theorem cmdWriteSettings_effect : CommandEffect s (cmdWriteSettings p s).state := by
  unfold cmdWriteSettings
  split
  · exact withValue_effect fun c hc => done_effect _ (.settings c (inRange_of_decodeSettings hc))
  · exact refuse_effect _ s

theorem cmdReadMap_effect : CommandEffect s (cmdReadMap p s).state := by
  unfold cmdReadMap
  split
  · exact withValue_effect fun _ _ => withIndex_effect fun sel _ => by cases sel <;> exact done_effect _ .nothing
  · exact refuse_effect _ s

theorem cmdWriteMapHeader_effect : CommandEffect s (cmdWriteMapHeader p s).state := by
  unfold cmdWriteMapHeader
  simp only
  split
  · split
    · exact refuse_effect _ s
    · rename_i h
      exact done_effect _ (.header _ (fun h₀ => h (.inl h₀)) (fun h₁ => h (.inr h₁)))
  · exact refuse_effect _ s

theorem cmdWriteMapEntry_effect : CommandEffect s (cmdWriteMapEntry p s).state := by
  unfold cmdWriteMapEntry
  split
  · refine withIndex_effect fun k _ => ?_
    split
    · rename_i valid
      exact withValue_effect fun _ _ => done_effect _ (.entry k _ valid)
    · exact refuse_effect _ s
  · exact refuse_effect _ s

theorem cmdApplyMap_effect : CommandEffect s (cmdApplyMap p s).state := by
  unfold cmdApplyMap
  split
  · split
    · exact .nothing
    · rename_i checked
      exact done_effect _ (.apply checked)
  · exact refuse_effect _ s

theorem cmdReadPolicy_effect : CommandEffect s (cmdReadPolicy p s).state := by
  unfold cmdReadPolicy
  split
  · exact withIndex_effect fun _ _ => done_effect _ .nothing
  · exact refuse_effect _ s

theorem cmdWritePolicy_effect : CommandEffect s (cmdWritePolicy p s).state := by
  unfold cmdWritePolicy
  split
  · exact refuse_effect _ s
  · split
    · exact withIndex_effect fun n _ => withValue_effect fun new h =>
        done_effect _ (.policy n new (inRange_of_decodePolicy h))
    · exact refuse_effect _ s

theorem cmdReadClass_effect : CommandEffect s (cmdReadClass p s).state := by
  unfold cmdReadClass
  split
  · exact withIndex_effect fun _ _ => done_effect _ .nothing
  · exact refuse_effect _ s

theorem cmdWriteClass_effect : CommandEffect s (cmdWriteClass p s).state := by
  unfold cmdWriteClass
  split
  · exact withIndex_effect fun n _ => withValue_effect fun e _ => done_effect _ (.classEntry n e)
  · exact refuse_effect _ s

theorem cmdReadDrop_effect : CommandEffect s (cmdReadDrop p s).state := by
  unfold cmdReadDrop
  split
  · exact withIndex_effect fun _ _ => done_effect _ .nothing
  · exact refuse_effect _ s

theorem cmdHold_effect : CommandEffect s (cmdHold p s).state := by
  unfold cmdHold
  split
  · refine withIndex_effect fun k _ => withValue_effect fun up _ => withValue_effect fun down _ => ?_
    split
    · exact refuse_effect _ s
    · rename_i used
      exact done_effect _ (.hold k up down (Bool.eq_false_iff.mpr used))
  · exact refuse_effect _ s

theorem cmdRecoverLatch_effect : CommandEffect s (cmdRecoverLatch p s).state := by
  unfold cmdRecoverLatch
  split
  · refine withIndex_effect fun k _ => ?_
    split
    · exact refuse_effect _ s
    · split
      · rename_i latched
        exact done_effect _ (.release k (.inl latched))
      · exact refuse_effect _ s
  · exact refuse_effect _ s

theorem cmdRecoverBarred_effect : CommandEffect s (cmdRecoverBarred p s).state := by
  unfold cmdRecoverBarred
  split
  · refine withIndex_effect fun k _ => ?_
    split
    · exact refuse_effect _ s
    · split
      · rename_i barred
        exact done_effect _ (.release k (.inr barred))
      · exact refuse_effect _ s
  · exact refuse_effect _ s

theorem cmdRecoverMonitor_effect : CommandEffect s (cmdRecoverMonitor p s).state := by
  unfold cmdRecoverMonitor
  split
  · refine withIndex_effect fun k _ => ?_
    split
    · exact refuse_effect _ s
    · refine withIndex_effect fun m _ => ?_
      simp only
      split
      · rename_i ready
        exact done_effect _ (.recovery k m ready.1 ready.2)
      · exact refuse_effect _ s
  · exact refuse_effect _ s

theorem cmdInjectErr_effect : CommandEffect s (cmdInjectErr p s).state := by
  unfold cmdInjectErr
  split
  · refine withIndex_effect fun k _ => ?_
    split
    · exact refuse_effect _ s
    · split
      · exact refuse_effect _ s
      · split
        · exact refuse_effect _ s
        · rename_i used
          exact done_effect _ (.injection k _ (Bool.eq_false_iff.mpr used))
  · exact refuse_effect _ s

theorem cmdInjectHeartbeat_effect : CommandEffect s (cmdInjectHeartbeat p s).state := by
  unfold cmdInjectHeartbeat
  split
  · refine withIndex_effect fun k _ => ?_
    split
    · exact refuse_effect _ s
    · split
      · exact refuse_effect _ s
      · rename_i used
        exact done_effect _ (.heartbeat k _ (Bool.eq_false_iff.mpr used))
  · exact refuse_effect _ s

theorem cmdReadEvents_effect : CommandEffect s (cmdReadEvents p s).state := by
  unfold cmdReadEvents
  split
  · refine withIndex_effect fun sel _ => ?_
    cases sel with
    | entry k => exact done_effect _ (.dropFlags k)
    | whole => exact done_effect _ (.deviceFlags)
  · exact refuse_effect _ s

theorem cmdAckAllEvents_effect : CommandEffect s (cmdAckAllEvents p s).state := by
  unfold cmdAckAllEvents
  split
  · exact done_effect _ (.allFlags)
  · exact refuse_effect _ s

theorem cmdReadCounters_effect : CommandEffect s (cmdReadCounters p s).state := by
  unfold cmdReadCounters
  split
  · exact withIndex_effect fun sel _ => withValue_effect fun _ _ => by cases sel <;> exact done_effect _ .nothing
  · exact refuse_effect _ s

theorem cmdClearCounters_effect : CommandEffect s (cmdClearCounters p s).state := by
  unfold cmdClearCounters
  split
  · exact done_effect _ (.counters)
  · exact refuse_effect _ s

theorem cmdReset_effect : CommandEffect s (cmdReset p s).state := by
  unfold cmdReset
  split
  · exact done_effect _ (.reset)
  · exact refuse_effect _ s

theorem cmdUnknown_effect : CommandEffect s (cmdUnknown p s).state := by
  unfold cmdUnknown
  split <;> exact refuse_effect _ s

end

/-- R131, R133: a command carried out has one of the effects. -/
theorem carryOut_effect (payload : List Byte) (s : State) : CommandEffect s (carryOut payload s).state := by
  unfold carryOut
  cases rowOf payload with
  | getInfo => exact cmdGetInfo_effect _ s
  | readSettings => exact cmdReadSettings_effect _ s
  | writeSettings => exact cmdWriteSettings_effect _ s
  | readMap => exact cmdReadMap_effect _ s
  | writeMapHeader => exact cmdWriteMapHeader_effect _ s
  | writeMapEntry => exact cmdWriteMapEntry_effect _ s
  | applyMap => exact cmdApplyMap_effect _ s
  | readPolicy => exact cmdReadPolicy_effect _ s
  | writePolicy => exact cmdWritePolicy_effect _ s
  | readClass => exact cmdReadClass_effect _ s
  | writeClass => exact cmdWriteClass_effect _ s
  | readDrop => exact cmdReadDrop_effect _ s
  | hold => exact cmdHold_effect _ s
  | recoverLatch => exact cmdRecoverLatch_effect _ s
  | recoverBarred => exact cmdRecoverBarred_effect _ s
  | recoverMonitor => exact cmdRecoverMonitor_effect _ s
  | injectErr => exact cmdInjectErr_effect _ s
  | injectHeartbeat => exact cmdInjectHeartbeat_effect _ s
  | readEvents => exact cmdReadEvents_effect _ s
  | ackAllEvents => exact cmdAckAllEvents_effect _ s
  | readCounters => exact cmdReadCounters_effect _ s
  | clearCounters => exact cmdClearCounters_effect _ s
  | reset => exact cmdReset_effect _ s
  | unknown => exact cmdUnknown_effect payload s

end Sys2Proof.Machine
end

section
/-! The rows as one event each on the state that each finds, and the queue of waiting commands through all of them. -/
namespace Sys2Proof.Machine
open Sys2Proof Sys2Proof.Safety

/-! ### One row, one event -/

/-- The taking of the head command by the row `row`, on the state that `settleLinks` leaves. -/
def takeHeadOf (row : CommandRow) (s : State) : State :=
  match s.commandQueue with
  | [] => s
  | c :: _ => if rowOf c.payload = row then takeHead s else s

theorem takeRow_eq (row : CommandRow) : takeRow row = fun s => takeHeadOf row (settleLinks s) := by
  funext s
  unfold takeRow takeHeadOf
  generalize settleLinks s = t
  cases h : t.commandQueue with
  | nil => simp only [h]
  | cons c rest => simp only [h]

/-- The one event of a row, on the state that it finds (`foundBy`). -/
def rowEvent : Instr → State → State
  | .powerOnReset => powerOnReset
  | .lineReset lowMicros => lineReset lowMicros
  | .resetRelease supplyStable resetNHigh => resetRelease supplyStable resetNHigh
  | .endOfStartUp straps => endOfStartUp straps
  | .dropArrival k f => event (dropArrival k f)
  | .trunkArrival f => event (trunkArrival f)
  | .dropTransmissionCompletion k => event (completeDrop k)
  | .trunkTransmissionCompletion => event completeTrunk
  | .dropTransmitterStart k => startDrop k
  | .grantDecision => grant
  | .millisecondTick pres => tick pres
  | .presenceChangeAccepted k => event (acceptPresence k)
  | .rateCreditFull k => event (rateFull k)
  | .silenceLimitReached k => event (silenceReached k)
  | .delayTimerExpiry k m => event (delayExpiry k m)
  | .recoveryTimerExpiry k m => event (recoveryExpiry k m)
  | .secondBoundary => event Machine.secondBoundary
  | .probationLimitReached k => event (limitReached k)
  | .decayTimerExpiry k => event (decayExpiry k)
  | .latchHoldExpiry k => event (Machine.latchHoldExpiry k)
  | .managementLossExpiry => event lossExpiry
  | .holdoffExpiry => event Machine.holdoffExpiry
  | .getInfo => takeHeadOf .getInfo
  | .readSettings => takeHeadOf .readSettings
  | .writeSettings => takeHeadOf .writeSettings
  | .readMap => takeHeadOf .readMap
  | .writeMapHeader => takeHeadOf .writeMapHeader
  | .writeMapEntry => takeHeadOf .writeMapEntry
  | .applyMap => takeHeadOf .applyMap
  | .readPolicy => takeHeadOf .readPolicy
  | .writePolicy => takeHeadOf .writePolicy
  | .readClass => takeHeadOf .readClass
  | .writeClass => takeHeadOf .writeClass
  | .readDrop => takeHeadOf .readDrop
  | .hold => takeHeadOf .hold
  | .recoverLatch => takeHeadOf .recoverLatch
  | .recoverBarred => takeHeadOf .recoverBarred
  | .recoverMonitor => takeHeadOf .recoverMonitor
  | .injectErr => takeHeadOf .injectErr
  | .injectHeartbeat => takeHeadOf .injectHeartbeat
  | .readEvents => takeHeadOf .readEvents
  | .ackAllEvents => takeHeadOf .ackAllEvents
  | .readCounters => takeHeadOf .readCounters
  | .clearCounters => takeHeadOf .clearCounters
  | .reset => takeHeadOf .reset
  | .unknownCommand => takeHeadOf .unknown

/-- A reset row acts in every phase, on the state as it stands (R16). -/
theorem exec_resetRow {c : Instr} (h : isResetRow c = true) (s : State) : exec c s = .next (rowEvent c s) := by
  cases c with
  | powerOnReset | lineReset | resetRelease | endOfStartUp => rfl
  | _ => cases h

/-- Every other row acts on the running part alone, on the state that what must come before it leaves (log 1, 3). -/
theorem exec_runningRow {c : Instr} (h : isResetRow c = false) (s : State) :
    exec c s = .next (whenRunning s fun s => rowEvent c (foundBy c s)) := by
  cases c with
  | powerOnReset | lineReset | resetRelease | endOfStartUp => cases h
  | getInfo | readSettings | writeSettings | readMap | writeMapHeader | writeMapEntry | applyMap | readPolicy
  | writePolicy | readClass | writeClass | readDrop | hold | recoverLatch | recoverBarred | recoverMonitor | injectErr
  | injectHeartbeat | readEvents | ackAllEvents | readCounters | clearCounters | reset | unknownCommand =>
    exact congrArg (fun f => Host.Outcome.next (whenRunning s f)) (takeRow_eq _)
  | _ => rfl

/-! ### The queue of waiting commands -/

theorem DropsOnly.pending {s t : State} (h : DropsOnly s t) : t.pending = s.pending := by rw [h]

theorem DropOnly.pending {k : DropNo} {s t : State} (h : DropOnly k s t) : t.pending = s.pending := h.rest.pending

theorem DeviceOnly.pending {s t : State} (h : DeviceOnly s t) : t.pending = s.pending := by rw [h]

theorem forDrops_pending {f : DropNo → State → State} (h : ∀ k s, (f k s).pending = s.pending) (s : State) :
    (forDrops f s).pending = s.pending :=
  forDrops_rel (R := fun s t => t.pending = s.pending) (fun _ => rfl) (fun _ _ _ h h' => h'.trans h) f h s

theorem event_pending {work : State → State} {s : State} (h : (work s).pending = s.pending) :
    (event work s).pending = s.pending := (closeGates_dropsOnly s (work s)).pending.trans h

section
variable (s : State)

@[simp] theorem raiseDevice_pending (f : DeviceFlag) : (raiseDevice f s).pending = s.pending :=
  (raiseDevice_only f s).pending

@[simp] theorem countDevice_pending (c : DeviceCounter) : (countDevice c s).pending = s.pending :=
  (countDevice_only c s).pending

@[simp] theorem countDrop_pending (k : DropNo) (c : DropCounter) : (countDrop k c s).pending = s.pending :=
  (countDrop_dropOnly k s c).pending

@[simp] theorem changePolicies_pending (fb : Fin 8) (oldOf : DropNo → Policy) :
    (changePolicies fb oldOf s).pending = s.pending := (changePolicies_protect fb oldOf s).rest.pending

/-! #### Traffic -/

@[simp] theorem enterFallback_pending : (enterFallback s).pending = s.pending := by
  simp [enterFallback, apply_ite State.pending]

@[simp] theorem exitFallback_pending (fb : Fin 8) (timeout : Nat) : (exitFallback fb timeout s).pending = s.pending := by
  simp [exitFallback, apply_ite State.pending]

@[simp] theorem controllerHeard_pending : (controllerHeard s).pending = s.pending := by
  unfold controllerHeard
  split
  · simp
  · rfl

@[simp] theorem commandArrival_pending (f : HeldFrame) : (commandArrival f s).pending = s.pending := by
  simp [commandArrival, apply_ite State.pending]

/-- R47: a frame at the trunk port, by its route. -/
@[simp] theorem downstream_pending (f : HeldFrame) : (downstream f s).pending = s.pending := by
  unfold downstream
  split
  · simp
  · split
    · simp [apply_ite State.pending]
    · exact (broadcast_dropsOnly f s).pending
    · exact (offerDownstream_dropOnly _ s f).pending
    · simp

@[simp] theorem trunkArrival_pending (f : LineFrame) : (trunkArrival f s).pending = s.pending := by
  simp [trunkArrival, apply_ite State.pending]

@[simp] theorem grantUpstream_pending : (grantUpstream s).pending = s.pending := by
  unfold grantUpstream
  split
  · rfl
  · split <;> rfl

@[simp] theorem grantNotice_pending : (grantNotice s).pending = s.pending := by
  simp [grantNotice, apply_ite State.pending]

@[simp] theorem grant_pending : (grant s).pending = s.pending := by
  unfold grant
  split
  · rfl
  · split
    · rfl
    · simp [apply_ite State.pending]

/-! #### Commands -/

@[simp] theorem restartCandidates_pending (debounce : Nat) : (restartCandidates debounce s).pending = s.pending :=
  forDrops_pending (fun k s => (modDrop_dropOnly k _ s).pending) s

@[simp] theorem timeoutChanged_pending (old : Settings) : (timeoutChanged old s).pending = s.pending := by
  unfold timeoutChanged
  split
  · rfl
  · simp [apply_ite State.pending]

@[simp] theorem fallbackPolicyChanged_pending (old : Settings) : (fallbackPolicyChanged old s).pending = s.pending := by
  unfold fallbackPolicyChanged
  split
  · exact forDrops_pending (fun k s => (policyChange_protect k _ s).rest.pending) s
  · rfl

@[simp] theorem noticeFieldsChanged_pending (old : Settings) : (noticeFieldsChanged old s).pending = s.pending := by
  simp [noticeFieldsChanged, apply_ite State.pending]

@[simp] theorem applySettings_pending (new : Settings) : (applySettings new s).pending = s.pending := by
  simp [applySettings, apply_ite State.pending]

@[simp] theorem applyStaging_pending : (applyStaging s).pending = s.pending := by
  simp only [applyStaging, controllerChanged, apply_ite State.pending, ite_self, raiseDevice_pending]
  exact forDrops_pending (fun k s => (applyDrop_dropOnly k s _).pending) _

@[simp] theorem replacePolicy_pending (n : Fin 8) (new : Policy) : (replacePolicy n new s).pending = s.pending := by
  refine forDrops_pending (fun k s => ?_) _
  split
  · exact (policyChange_protect k _ s).rest.pending
  · rfl

theorem clearFlags_pending : (forDrops clearDropFlags s).pending = s.pending :=
  forDrops_pending (fun k s => (modDrop_dropOnly k _ s).pending) s

@[simp] theorem clearDeviceFlags_pending : (clearDeviceFlags s).pending = s.pending := rfl

theorem clearCounters_pending : (clearCounters s).pending = s.pending := by
  simp only [clearCounters]
  exact forDrops_pending (fun k s => (modDrop_dropOnly k _ s).pending) s

end

/-- No effect of a command touches the waiting commands. -/
theorem CommandEffect.pending {s t : State} (h : CommandEffect s t) : t.pending = s.pending := by
  cases h with
  | nothing | header | entry | classEntry | hold | injection | dropFlags | deviceFlags | reset => rfl
  | settings c => exact applySettings_pending s c
  | apply => exact applyStaging_pending s
  | policy n new => exact replacePolicy_pending s n new
  | release k => exact (release_dropOnly k s).pending
  | recovery k m => exact (startRecovery_protect k m s).rest.pending
  | heartbeat k c => exact (takeHeartbeat_protect k c s).rest.pending
  | allFlags => rw [clearDeviceFlags_pending, clearFlags_pending]
  | counters => exact clearCounters_pending s

section
variable (s : State)

theorem takeCommand_pending (c : Command) : (takeCommand c s).pending = s.pending := by
  have effect := (carryOut_effect c.payload (countDevice .commands s)).pending
  rw [countDevice_pending] at effect
  unfold takeCommand
  simp only
  split
  · exact effect
  · rw [countDevice_pending]
    exact effect

@[simp] theorem takeHead_pending : (takeHead s).pending = s.pending := by
  unfold takeHead
  split
  · rfl
  · split
    · exact event_pending (takeCommand_pending _ _)
    · rfl

@[simp] theorem takeHeadOf_pending (row : CommandRow) : (takeHeadOf row s).pending = s.pending := by
  unfold takeHeadOf
  split
  · rfl
  · split
    · exact takeHead_pending s
    · rfl

/-! #### What comes before an event (log 1, 3) -/

@[simp] theorem settleLinks_pending : (settleLinks s).pending = s.pending := by
  rw [settleLinks, grant_pending, forDrops_pending fun k s => (startDrop_dropOnly k s).pending,
    (settleLimits_dropsOnly s).pending]

@[simp] theorem drain_pending (n : Nat) : (drain n s).pending = s.pending := by
  induction n generalizing s with
  | zero => rfl
  | succ n ih =>
    unfold drain
    split
    · rfl
    · split
      · rw [ih, grant_pending, takeHead_pending]
      · rfl

@[simp] theorem settle_pending : (settle s).pending = s.pending := by
  rw [settle, drain_pending, settleLinks_pending]

@[simp] theorem ready_pending : (ready s).pending = s.pending := by
  rw [ready, settle_pending, (settleConditions_dropsOnly _).pending, settle_pending]

theorem lossExpiry_pending : (lossExpiry s).pending = s.pending := by
  simp [lossExpiry, apply_ite State.pending]

theorem holdoffExpiry_pending : (holdoffExpiry s).pending = s.pending := by
  simp [holdoffExpiry, apply_ite State.pending]

theorem secondBoundary_pending : (secondBoundary s).pending = s.pending := by
  by_cases h : s.boundaryDue = true
  · rw [secondBoundary_rest h]
  · simp [secondBoundary, h]

theorem takeDue_pending {work : State → State} (due : Bool) (h : ∀ s, (work s).pending = s.pending) :
    (takeDue due work s).pending = s.pending := by
  unfold takeDue
  split
  · rw [settle_pending, event_pending (h s)]
  · rfl

theorem foldMonitors_pending {f : State → Monitor → State} (h : ∀ s m, (f s m).pending = s.pending)
    (l : List Monitor) : (l.foldl f s).pending = s.pending :=
  foldl_rel (R := fun s t => t.pending = s.pending) (fun _ => rfl) (fun _ _ _ h h' => h'.trans h) f h l s

theorem flushDrop_pending (k : DropNo) : (flushDrop k s).pending = s.pending := by
  unfold flushDrop
  simp only
  rw [foldMonitors_pending _ fun s m => takeDue_pending s _ fun s => (recoveryExpiry_dropOnly k s m).pending,
    foldMonitors_pending _ fun s m => takeDue_pending s _ fun s => (delayExpiry_dropOnly k s m).pending,
    takeDue_pending _ _ fun s => (acceptPresence_dropOnly k s).pending]

theorem flushSeconds_pending (k : DropNo) : (flushSeconds k s).pending = s.pending := by
  unfold flushSeconds
  simp only
  rw [takeDue_pending _ _ fun s => (latchHoldExpiry_dropOnly k s).pending,
    takeDue_pending _ _ fun s => (decayExpiry_dropOnly k s).pending]

theorem flushAll_pending : (flushAll s).pending = s.pending := by
  unfold flushAll
  simp only
  rw [takeDue_pending _ _ holdoffExpiry_pending, takeDue_pending _ _ lossExpiry_pending,
    forDrops_pending fun k s => flushSeconds_pending s k, takeDue_pending _ _ secondBoundary_pending,
    forDrops_pending fun k s => flushDrop_pending s k]

theorem whenRunning_pending {f : State → State} (h : (f s).pending = s.pending) :
    (whenRunning s f).pending = s.pending := by
  unfold whenRunning
  split
  · exact h
  · rfl

@[simp] theorem catchUp_pending : (catchUp s).pending = s.pending := by
  refine whenRunning_pending s ?_
  rw [ready_pending, flush, apply_ite State.pending, flushAll_pending, ite_self, ready_pending]

theorem foundBy_pending (c : Instr) : (foundBy c s).pending = s.pending := by
  cases c with
  | powerOnReset | lineReset | resetRelease | endOfStartUp | dropTransmitterStart | grantDecision
  | probationLimitReached => rfl
  | dropArrival | trunkArrival | dropTransmissionCompletion | trunkTransmissionCompletion | managementLossExpiry =>
    exact ready_pending s
  | millisecondTick => exact catchUp_pending s
  | presenceChangeAccepted | rateCreditFull | silenceLimitReached | delayTimerExpiry | recoveryTimerExpiry
  | secondBoundary | decayTimerExpiry | latchHoldExpiry | holdoffExpiry => exact settle_pending s
  | _ => exact settleLinks_pending s

/-! #### The rows -/

theorem lineReset_pending (n : Nat) : (lineReset n s).pending = s.pending := by
  unfold lineReset
  split
  · rfl
  · simp only
    split <;> rfl

theorem resetRelease_pending (supplyStable resetNHigh : Bool) :
    (resetRelease supplyStable resetNHigh s).pending = s.pending := by
  unfold resetRelease
  split
  · simp [apply_ite State.pending]
  · rfl
  · rfl

theorem endOfStartUp_pending (straps : BitVec 4) : (endOfStartUp straps s).pending = s.pending := by
  unfold endOfStartUp
  split <;> rfl

theorem completeTrunk_pending : (completeTrunk s).pending = s.pending := by
  unfold completeTrunk
  split
  · rfl
  · simp only
    split
    · exact countDrop_pending _ _ _
    · rfl
    · exact forDrops_pending (fun k s => (modDrop_dropOnly k _ s).pending) _
    · rfl

/-- The event of every row leaves the waiting commands alone. -/
theorem rowEvent_pending (c : Instr) : (rowEvent c s).pending = s.pending := by
  cases c with
  | powerOnReset => rfl
  | lineReset n => exact lineReset_pending s n
  | resetRelease stable high => exact resetRelease_pending s stable high
  | endOfStartUp straps => exact endOfStartUp_pending s straps
  | dropArrival k f => exact event_pending (dropArrival_dropOnly k s f).pending
  | trunkArrival f => exact event_pending (trunkArrival_pending s f)
  | dropTransmissionCompletion k => exact event_pending (completeDrop_dropOnly k s).pending
  | trunkTransmissionCompletion => exact event_pending (completeTrunk_pending s)
  | dropTransmitterStart k => exact (startDrop_dropOnly k s).pending
  | grantDecision => exact grant_pending s
  | millisecondTick pres => exact (congrArg State.pending (tick_rest pres s)).trans rfl
  | presenceChangeAccepted k => exact event_pending (acceptPresence_dropOnly k s).pending
  | rateCreditFull k => exact event_pending (rateFull_dropOnly k s).pending
  | silenceLimitReached k => exact event_pending (silenceReached_dropOnly k s).pending
  | delayTimerExpiry k m => exact event_pending (delayExpiry_dropOnly k s m).pending
  | recoveryTimerExpiry k m => exact event_pending (recoveryExpiry_dropOnly k s m).pending
  | secondBoundary => exact event_pending (secondBoundary_pending s)
  | probationLimitReached k => exact event_pending (limitReached_dropOnly k s).pending
  | decayTimerExpiry k => exact event_pending (decayExpiry_dropOnly k s).pending
  | latchHoldExpiry k => exact event_pending (latchHoldExpiry_dropOnly k s).pending
  | managementLossExpiry => exact event_pending (lossExpiry_pending s)
  | holdoffExpiry => exact event_pending (holdoffExpiry_pending s)
  | _ => exact takeHeadOf_pending s _

end

/-- Settles O3: every row is one event on the state that it finds, and no event touches the waiting commands. -/
theorem everyCommandCompletes : Obligations.EveryCommandCompletes := by
  constructor
  · intro c s
    cases hc : isResetRow c with
    | true => exact ⟨_, exec_resetRow hc s, rowEvent_pending s c⟩
    | false =>
      refine ⟨_, exec_runningRow hc s, whenRunning_pending s ?_⟩
      rw [rowEvent_pending, foundBy_pending]
  · intro c s hc hs
    rw [exec_runningRow hc, whenRunning_of_not_running _ hs]

end Sys2Proof.Machine
end
